-- ==== Sys2Proof/Word.lean ====
section
/-! DEFINITION. Word.lean: the widths of the values the spec treats as bits (00_scope.md R6, R7). -/

namespace Sys2Proof

/-- A data byte: `addr_byte`, `data_byte`, `TXBUF`, `RXBUF`, a cell of `rx_buf` (R7, R13, R14, R29, R30). -/
abbrev Byte := BitVec 8

/-- An unsigned `CW`-bit counter, `CW = 8` (R6, R11, R12). -/
abbrev Counter := BitVec 8

/-- The 2-bit index `rx_cursor`: 0, 1, 2 are store positions, 3 is past the end (R15). -/
abbrev Cursor := BitVec 2

/-- The command word of format C, `cmd[16:0]` (R61). -/
abbrev CmdWord := BitVec 17

/-- The event code of format E, `iv[2:0]` (R62). -/
abbrev EventCode := BitVec 3

/-- The foreground position of format F, `fg[3:0]` (R63). -/
abbrev FgCode := BitVec 4

/-- The 2-bit result register `status` (R25). -/
abbrev StatusCode := BitVec 2

end Sys2Proof
end

