-- ==== Sys2Proof/Syntax.lean ====
section
/-! DEFINITION. Syntax.lean: the operations of 30_encoding.md R60, one constructor for every row of
spec/opcode_table.json. -/

namespace Sys2Proof

/-- The operation set: two host commands (format C), twelve event rows (format E), sixteen foreground rows (format F). -/
inductive Instr where
  /-- `WRITE a, d` (R80): accept the command, `CALL_WRITE`. -/
  | write (a d : Byte)
  /-- `READ a` (R81): accept the command, `CALL_READ`. Its word's low byte is ignored (R61), so it is no operand. -/
  | read (a : Byte)
  /-- `RX_CONT` (R91). -/
  | rxCont
  /-- `RX_PENULT` (R92). -/
  | rxPenult
  /-- `RX_LAST` (R93). -/
  | rxLast
  /-- `TX_ADDR` (R94). -/
  | txAddr
  /-- `TX_DATA` (R95). -/
  | txData
  /-- `TX_DONE` (R96). -/
  | txDone
  /-- `EV_ARB_LOST` (R97; R165 under `Surface`). -/
  | evArbLost
  /-- `EV_NACK` (R98; R164 under `Surface`). -/
  | evNack
  /-- `EV_START` (R99). -/
  | evStart
  /-- `EV_STOP` (R100). -/
  | evStop
  /-- `EV_NONE` (R101), code 0. -/
  | evNone
  /-- The reserved event code 7, which acts as `EV_NONE` (R68, R101). -/
  | evNoneReserved
  /-- `fg = IDLE` with no command at the port (R22, R38, R65). -/
  | idle
  /-- `W_POLL` (R111). -/
  | wPoll
  /-- `W_ARM` (R112). -/
  | wArm
  /-- `W_SLEEP` (R113). -/
  | wSleep
  /-- `W_SETTLE` (R114). -/
  | wSettle
  /-- `R1_POLL` (R121). -/
  | r1Poll
  /-- `R1_ARM` (R122). -/
  | r1Arm
  /-- `R1_SLEEP` (R123). -/
  | r1Sleep
  /-- `R1_SETTLE` (R124; R163 under `Surface`). -/
  | r1Settle
  /-- `R2_INIT` (R82). -/
  | r2Init
  /-- `R2_POLL` (R126). -/
  | r2Poll
  /-- `R2_ARM` (R127). -/
  | r2Arm
  /-- `R2_SLEEP` (R128). -/
  | r2Sleep
  /-- `R2_SETTLE` (R129). -/
  | r2Settle
  /-- The reserved foreground code 14 (R68). -/
  | fgReserved14
  /-- The reserved foreground code 15 (R68). -/
  | fgReserved15
  deriving DecidableEq, Repr, Inhabited

end Sys2Proof
end

