-- ==== Sys2Proof/Decode.lean ====
section
/-! DEFINITION. Decode.lean: the three formats of 30_encoding.md (R60 to R68): decoder, encoder, and the match and mask
of spec/opcode_table.json. -/

namespace Sys2Proof

/-! ### The named codes (R22, R62, R25) -/

abbrev Fg.idle : FgCode := 0
abbrev Fg.wPoll : FgCode := 1
abbrev Fg.wArm : FgCode := 2
abbrev Fg.wSleep : FgCode := 3
abbrev Fg.wSettle : FgCode := 4
abbrev Fg.r1Poll : FgCode := 5
abbrev Fg.r1Arm : FgCode := 6
abbrev Fg.r1Sleep : FgCode := 7
abbrev Fg.r1Settle : FgCode := 8
abbrev Fg.r2Init : FgCode := 9
abbrev Fg.r2Poll : FgCode := 10
abbrev Fg.r2Arm : FgCode := 11
abbrev Fg.r2Sleep : FgCode := 12
abbrev Fg.r2Settle : FgCode := 13

abbrev Ev.none : EventCode := 0
abbrev Ev.arbLost : EventCode := 1
abbrev Ev.nack : EventCode := 2
abbrev Ev.start : EventCode := 3
abbrev Ev.stop : EventCode := 4
abbrev Ev.rxFull : EventCode := 5
abbrev Ev.txEmpty : EventCode := 6
abbrev Ev.reserved : EventCode := 7

abbrev Status.ok : StatusCode := 0
abbrev Status.nack : StatusCode := 1
abbrev Status.arbLost : StatusCode := 2

/-- The reserved value of `status` (R25, R68 (c)). -/
abbrev Status.reserved : StatusCode := 3

/-- `fg` holds one of the reserved codes 14 and 15 (R68 (b)). -/
def fgReserved (fg : FgCode) : Bool := decide (14 ≤ fg)

/-! ### Format C (R61) -/

/-- Bit 16: 0 = `WRITE`, 1 = `READ`. -/
def cmdOp (w : CmdWord) : BitVec 1 := w.extractLsb' 16 1

/-- Bits 15:8, the operand `a`, taken as it stands (R64). -/
def cmdA (w : CmdWord) : Byte := w.extractLsb' 8 8

/-- Bits 7:0, the operand `d` of `WRITE` (R64). -/
def cmdD (w : CmdWord) : Byte := w.extractLsb' 0 8

/-- `{op, a, d}`. -/
def mkCmd (op : BitVec 1) (a d : Byte) : CmdWord := op ++ a ++ d

/-- R61, R65: every 17-bit value is a legal command. -/
def decodeCommand (w : CmdWord) : Instr :=
  if cmdOp w = 0 then .write (cmdA w) (cmdD w) else .read (cmdA w)

/-! ### Format E (R62, R66) -/

/-- The handler rule that the event code and the counters at entry select (R66; code 7 by R68 (a)). -/
def decodeEvent (iv : EventCode) (tx rx : Counter) : Instr :=
  match iv.toNat with
  | 0 => .evNone
  | 1 => .evArbLost
  | 2 => .evNack
  | 3 => .evStart
  | 4 => .evStop
  | 5 => if 2 < rx then .rxCont else if rx = 2 then .rxPenult else .rxLast
  | 6 => if 1 < tx then .txAddr else if tx = 1 then .txData else .txDone
  | _ => .evNoneReserved

/-! ### Format F (R63, R67) -/

/-- The micro-operation that `fg` selects; 14 and 15 are reserved (R68 (b)). -/
def decodePosition (fg : FgCode) : Instr :=
  match fg.toNat with
  | 0 => .idle
  | 1 => .wPoll
  | 2 => .wArm
  | 3 => .wSleep
  | 4 => .wSettle
  | 5 => .r1Poll
  | 6 => .r1Arm
  | 7 => .r1Sleep
  | 8 => .r1Settle
  | 9 => .r2Init
  | 10 => .r2Poll
  | 11 => .r2Arm
  | 12 => .r2Sleep
  | 13 => .r2Settle
  | 14 => .fgReserved14
  | _ => .fgReserved15

/-! ### One code of any format -/

/-- An operation as it is encoded: which format it is read in (R69), and its bits. -/
inductive Code where
  | command (w : CmdWord)
  | event (iv : EventCode)
  | position (fg : FgCode)
  deriving DecidableEq, Repr

/-- The operation a code selects; the counters matter to format E only (R66). -/
def decode (c : Code) (tx rx : Counter) : Instr :=
  match c with
  | .command w => decodeCommand w
  | .event iv => decodeEvent iv tx rx
  | .position fg => decodePosition fg

/-- Width in bits of a code's format (R60). -/
def codeWidth (c : Code) : Nat :=
  match c with
  | .command _ => 17
  | .event _ => 3
  | .position _ => 4

/-- A code's bits as a number. -/
def codeBits (c : Code) : Nat :=
  match c with
  | .command w => w.toNat
  | .event iv => iv.toNat
  | .position fg => fg.toNat

/-- The canonical code of an operation (R61: `READ` has `d = 0x00`; R62; R22). -/
def encode (i : Instr) : Code :=
  match i with
  | .write a d => .command (mkCmd 0 a d)
  | .read a => .command (mkCmd 1 a 0)
  | .rxCont | .rxPenult | .rxLast => .event Ev.rxFull
  | .txAddr | .txData | .txDone => .event Ev.txEmpty
  | .evArbLost => .event Ev.arbLost
  | .evNack => .event Ev.nack
  | .evStart => .event Ev.start
  | .evStop => .event Ev.stop
  | .evNone => .event Ev.none
  | .evNoneReserved => .event Ev.reserved
  | .idle => .position Fg.idle
  | .wPoll => .position Fg.wPoll
  | .wArm => .position Fg.wArm
  | .wSleep => .position Fg.wSleep
  | .wSettle => .position Fg.wSettle
  | .r1Poll => .position Fg.r1Poll
  | .r1Arm => .position Fg.r1Arm
  | .r1Sleep => .position Fg.r1Sleep
  | .r1Settle => .position Fg.r1Settle
  | .r2Init => .position Fg.r2Init
  | .r2Poll => .position Fg.r2Poll
  | .r2Arm => .position Fg.r2Arm
  | .r2Sleep => .position Fg.r2Sleep
  | .r2Settle => .position Fg.r2Settle
  | .fgReserved14 => .position 14
  | .fgReserved15 => .position 15

/-- The counter condition at handler entry that tells the tiers of one event code apart (R66, key `cond` of the table). -/
def Instr.selectedBy (i : Instr) (tx rx : Counter) : Bool :=
  match i with
  | .rxCont => decide (2 < rx)
  | .rxPenult => decide (rx = 2)
  | .rxLast => decide (rx ≤ 1)
  | .txAddr => decide (1 < tx)
  | .txData => decide (tx = 1)
  | .txDone => decide (tx = 0)
  | .write _ _ | .read _ => true
  | .evArbLost | .evNack | .evStart | .evStop | .evNone | .evNoneReserved => true
  | .idle | .wPoll | .wArm | .wSleep | .wSettle => true
  | .r1Poll | .r1Arm | .r1Sleep | .r1Settle => true
  | .r2Init | .r2Poll | .r2Arm | .r2Sleep | .r2Settle => true
  | .fgReserved14 | .fgReserved15 => true

/-! ### The table's own key: match and mask of spec/opcode_table.json -/

/-- A row of spec/opcode_table.json: `width`, `match`, `mask`. -/
structure TableRow where
  width : Nat
  pat : Nat
  mask : Nat
  deriving DecidableEq, Repr

/-- The row of an operation, written out from spec/opcode_table.json. -/
def tableRow (i : Instr) : TableRow :=
  match i with
  | .write _ _ => ⟨17, 0x00000, 0x10000⟩
  | .read _ => ⟨17, 0x10000, 0x10000⟩
  | .rxCont => ⟨3, 0x5, 0x7⟩
  | .rxPenult => ⟨3, 0x5, 0x7⟩
  | .rxLast => ⟨3, 0x5, 0x7⟩
  | .txAddr => ⟨3, 0x6, 0x7⟩
  | .txData => ⟨3, 0x6, 0x7⟩
  | .txDone => ⟨3, 0x6, 0x7⟩
  | .evArbLost => ⟨3, 0x1, 0x7⟩
  | .evNack => ⟨3, 0x2, 0x7⟩
  | .evStart => ⟨3, 0x3, 0x7⟩
  | .evStop => ⟨3, 0x4, 0x7⟩
  | .evNone => ⟨3, 0x0, 0x7⟩
  | .evNoneReserved => ⟨3, 0x7, 0x7⟩
  | .idle => ⟨4, 0x0, 0xF⟩
  | .wPoll => ⟨4, 0x1, 0xF⟩
  | .wArm => ⟨4, 0x2, 0xF⟩
  | .wSleep => ⟨4, 0x3, 0xF⟩
  | .wSettle => ⟨4, 0x4, 0xF⟩
  | .r1Poll => ⟨4, 0x5, 0xF⟩
  | .r1Arm => ⟨4, 0x6, 0xF⟩
  | .r1Sleep => ⟨4, 0x7, 0xF⟩
  | .r1Settle => ⟨4, 0x8, 0xF⟩
  | .r2Init => ⟨4, 0x9, 0xF⟩
  | .r2Poll => ⟨4, 0xA, 0xF⟩
  | .r2Arm => ⟨4, 0xB, 0xF⟩
  | .r2Sleep => ⟨4, 0xC, 0xF⟩
  | .r2Settle => ⟨4, 0xD, 0xF⟩
  | .fgReserved14 => ⟨4, 0xE, 0xF⟩
  | .fgReserved15 => ⟨4, 0xF, 0xF⟩

/-! ### Bits that do not say their format -/

/-- Why a bit string is no code. -/
inductive DecodeError where
  /-- No format of R60 has this many bits. -/
  | noFormat (nbits : Nat)
  /-- The value has a bit set above the format's width. -/
  | doesNotFit (w : Nat)
  deriving DecidableEq, Repr

/-- The code that `nbits` bits of value `w` stand for (log entry 14). 17, 3 and 4 bits name formats C, E and F; the
same widths in whole bytes are 24 and 8, and 8 bits below 8 are read in the shorter format E, from 8 to 15 in format F. -/
def codeOfBits (nbits w : Nat) : Except DecodeError Code :=
  if nbits = 17 ∨ nbits = 24 then
    if w < 2 ^ 17 then .ok (.command (BitVec.ofNat 17 w)) else .error (.doesNotFit w)
  else if nbits = 3 then
    if w < 8 then .ok (.event (BitVec.ofNat 3 w)) else .error (.doesNotFit w)
  else if nbits = 4 then
    if w < 16 then .ok (.position (BitVec.ofNat 4 w)) else .error (.doesNotFit w)
  else if nbits = 8 then
    if w < 8 then .ok (.event (BitVec.ofNat 3 w))
    else if w < 16 then .ok (.position (BitVec.ofNat 4 w))
    else .error (.doesNotFit w)
  else .error (.noFormat nbits)

/-- `tx_remaining` at which a bare event code is read (log entry 14): the tier `TX_ADDR`. -/
abbrev tableTx : Counter := 2

/-- `rx_remaining` at which a bare event code is read (log entry 14): the tier `RX_CONT`. -/
abbrev tableRx : Counter := 3

/-- Decode bits of the opcode table, total: an instruction, or the named reason why there is none. -/
def decodeBits (nbits w : Nat) : Except DecodeError Instr :=
  match codeOfBits nbits w with
  | .ok c => .ok (decode c tableTx tableRx)
  | .error e => .error e

/-- The host's view of `decodeBits`. -/
def decodeTableWord (nbits w : Nat) : Option Instr :=
  match decodeBits nbits w with
  | .ok i => some i
  | .error _ => none

end Sys2Proof
end

