-- ==== Sys2Proof/Config.lean ====
section
/-! DEFINITION. Config.lean: the implementation parameters of 00_scope.md R6 that have one fixed value, the choices the
agents of R2 are free to make, and the free values: constants without a body for every point the spec leaves OPEN. -/

namespace Sys2Proof

/-- `NACK_POLICY` (R6, D23): the observed behaviour, or the document's corrected design. -/
inductive NackPolicy where
  | ignore
  | surface
  deriving DecidableEq, Repr, Inhabited

/-- The four causes of the event class "other" (R62). -/
inductive OtherEvent where
  | arbLost
  | nack
  | start
  | stop
  deriving DecidableEq, Repr, Inhabited

/-- A step of the reference peripheral (44_peripheral_agent.md R138 to R143). -/
inductive PeriphStep where
  /-- `P_START`, R138. -/
  | start
  /-- `P_TX_TAKE`, R139. -/
  | txTake
  /-- `P_TX_STOP`, R140. -/
  | txStop
  /-- `P_RX_BYTE`, R141. -/
  | rxByte
  /-- `P_RX_STOP`, R142. -/
  | rxStop
  /-- `P_OTHER(e)`, R143. -/
  | other (e : OtherEvent)
  deriving DecidableEq, Repr, Inhabited

/-- Which of the four agents of R2 is offered the next step. "any enabled step of any agent may be taken next" (R3). -/
inductive Move where
  /-- The foreground: one micro-operation, the acceptance of a command, or the boot sequence. -/
  | foreground
  /-- One handler invocation. -/
  | interrupt
  /-- One step of the peripheral. -/
  | peripheral (p : PeriphStep)
  /-- The host presents a command word at the command port (R38, R70). -/
  | host (w : CmdWord)
  deriving DecidableEq, Repr, Inhabited

/-- One turn of the run: who is offered the step, and which pending cause the status vector reports once it is over
(`IV_ORDER`, R170: any). -/
structure Turn where
  move : Move
  ivPick : Nat
  deriving DecidableEq, Repr, Inhabited

/-- `IE_OTHER` (R6, D18): which of the four "other" causes the boot sequence enables. -/
structure IeOther where
  arbLost : Bool
  nack : Bool
  start : Bool
  stop : Bool
  deriving DecidableEq, Repr, Inhabited

/-- The names of the peripheral's register fields, which `REG_MAP` would give an address and a bit position (R48). -/
inductive RegField where
  | swrst | mst | mode | sync | tr | txstt | txstp | clkSel | br | sa | txbuf | rxbuf | ie | ifg | iv
  deriving DecidableEq, Repr, Inhabited

/-- `TX_LEN_WRITE`: initial `tx_remaining` of `Write` (R6). -/
abbrev Config.txLenWrite : Counter := 2

/-- `TX_LEN_SETUP`: initial `tx_remaining` of phase 1 of `Read` (R6). -/
abbrev Config.txLenSetup : Counter := 1

/-- `RX_LEN` as a counter value: initial `rx_remaining` of phase 2 of `Read` (R6). -/
abbrev Config.rxLen : Counter := 3

/-- `RX_LEN` as the length of the receive destination (R6, R40). -/
abbrev Config.rxCells : Nat := 3

/-- Free value (log entry 3): whose turn it is when nothing has been placed in the schedule. -/
opaque Config.freeTurn : Nat → Turn

/-- Free value (log entry 4): the `ANY` that `RX_LAST` leaves in `rx_remaining` at entry value 0 (R93, U5). -/
opaque Config.freeCounter : Nat → Counter

/-- `CFG.clk_sel`, OPEN; its width is not in the document (R21, log entry 6). -/
opaque Config.clkSel : Nat

/-- `CFG.br`, OPEN (R21). -/
opaque Config.br : BitVec 16

/-- `CFG.sa`, OPEN (R21). -/
opaque Config.sa : BitVec 7

/-- `IE_OTHER`, OPEN (R6, D18). -/
opaque Config.ieOther : IeOther

/-- `SETTLE_DELAY`, OPEN; no rule reads it (R6, R205). -/
opaque Config.settleDelay : Nat

/-- `rx_src` at the start of a run: the finite sequence of bytes the slave will supply, an OPEN input (R36, R137). -/
opaque Config.rxSrc : List Byte

/-- `REG_MAP`, OPEN: address and bit position of a register field; no rule reads it (R6, R48). -/
opaque Config.regMap : RegField → Nat × Nat

end Sys2Proof
end

