-- ==== Sys2Proof/Machine/State.lean ====
section
/-! DEFINITION. Machine/State.lean: everything 10_state.md gives the machine, as plain data, and the state after reset
(R36). -/

namespace Sys2Proof.Machine

/-- `direction` (R10): `Write = 0`, `Read = 1` (D4). -/
inductive Direction where
  | write
  | read
  deriving DecidableEq, Repr, Inhabited

/-- `CTL.mode` (R26): "the only value used is `I2C`"; `unselected` stands for every other value (log entry 2). -/
inductive ModeSel where
  | unselected
  | i2c
  deriving DecidableEq, Repr, Inhabited

/-- One bit per event class: the shape of `IE` and of `IFG` (R31, R32). -/
structure EventBits where
  rxFull : Bool
  txEmpty : Bool
  arbLost : Bool
  nack : Bool
  start : Bool
  stop : Bool
  deriving DecidableEq, Repr

/-- `CTL`, the control register with its seven named fields (R26). -/
structure Ctl where
  swrst : Bool
  mst : Bool
  mode : ModeSel
  sync : Bool
  tr : Bool
  txstt : Bool
  txstp : Bool
  deriving DecidableEq, Repr

/-- The constant record `CFG`, PeripheralConfig (R21), with the other parameters of R6 that a state can be given: no
step writes any of them. -/
structure Params where
  /-- `CFG.clk_sel` (R21). -/
  clkSel : Nat
  /-- `CFG.br`, `BR_W = 16` (R21). -/
  br : BitVec 16
  /-- `CFG.sa`, `SA_W = 7` (R21). -/
  sa : BitVec 7
  /-- `NACK_POLICY` (R6). -/
  nackPolicy : NackPolicy
  /-- `IE_OTHER` (R6). -/
  ieOther : IeOther
  /-- `SETTLE_DELAY` (R6, R205); no rule reads it. -/
  settleDelay : Nat
  /-- `A_NO_EARLY_EVENT` (R6, R169, R197). -/
  noEarlyEvent : Bool
  /-- `A_SETTLE_COVERS_STOP` (R6, R130, R203). -/
  settleCoversStop : Bool
  deriving DecidableEq, Repr

/-- The bus phase of the reference peripheral (R34 (d), R137). -/
inductive BusPhase where
  | busIdle
  | txActive
  | rxActive
  | rxStopping
  deriving DecidableEq, Repr, Inhabited

/-- An item of the observation log `tx_log` (R35). -/
inductive BusItem where
  /-- `S(W)`: start, transmitter. -/
  | startW
  /-- `S(R)`: start, receiver. -/
  | startR
  /-- `B(v)`: a data byte. -/
  | byte (v : Byte)
  /-- `P`: stop. -/
  | stop
  deriving DecidableEq, Repr

/-- What the response port carries when a call returns (R38); `status` only under `Surface` (R163). -/
inductive Response where
  /-- `Write` has returned: completion, no value (R114, R116). -/
  | written (status : Option StatusCode)
  /-- `Read` has returned: `rx_buf[0]`, `rx_buf[1]`, `rx_buf[2]` (R129). -/
  | bytes (b0 b1 b2 : Byte) (status : Option StatusCode)
  deriving DecidableEq, Repr

/-- The receive destination `rx_buf` (R16, R40): address and byte pairs, addresses strictly rising, all below 3, no
entry equal to what an unlisted cell reads as (`Memory.wf`). -/
abbrev Memory := List Host.Cell

/-- The faults of the model, a closed list (R180, D33). -/
inductive Fault where
  /-- `RxOverrun(rx_cursor)`: raised by `RxStore` (`RX_CONT`, `RX_PENULT`, `RX_LAST`) when `rx_cursor >= 3` (R41). Safe:
  the model stops where the source writes out of bounds (U3). -/
  | rxOverrun (cursor : Cursor)
  /-- `ReservedEncoding(x)`: raised by a step from a state whose `fg` is 14 or 15, or whose `status` is 3 under `Surface`
  (R68). Safe: no rule reaches such a state. -/
  | reservedEncoding (x : Nat)
  deriving DecidableEq, Repr

/-- Refusals. -/
inductive Refusal where
  /-- Raised by `exec` for an instruction without a meaning yet; no arm raises it. Safe. -/
  | notModelled (mnemonic : String)
  deriving DecidableEq, Repr

/-- The machine's state, in the groups of 10_state.md. -/
structure State where
  /-- `direction` (R10). -/
  direction : Direction
  /-- `tx_remaining` (R11). -/
  txRemaining : Counter
  /-- `rx_remaining` (R12). -/
  rxRemaining : Counter
  /-- `addr_byte` (R13). -/
  addrByte : Byte
  /-- `data_byte` (R14). -/
  dataByte : Byte
  /-- `rx_cursor` (R15). -/
  rxCursor : Cursor
  /-- `rx_buf[0..2]` (R16). -/
  rxBuf : Memory
  /-- `CFG` and the other parameters of the hardware (R6, R21): constant. -/
  par : Params
  /-- `fg`, the foreground position (R22). -/
  fg : FgCode
  /-- `lpm`, the low-power wait condition (R23). -/
  lpm : Bool
  /-- `gie`, the global interrupt enable (R24). -/
  gie : Bool
  /-- `status`; read and written under `Surface` only (R25). -/
  status : StatusCode
  /-- `CTL` (R26). -/
  ctl : Ctl
  /-- The clock source selector that `CONFIG` writes (R192). -/
  clkSrc : Nat
  /-- `BR` (R27). -/
  br : BitVec 16
  /-- `SA` (R28). -/
  sa : BitVec 7
  /-- `TXBUF` (R29). -/
  txbuf : Byte
  /-- `RXBUF` (R30). -/
  rxbuf : Byte
  /-- `IE` (R31). -/
  ie : EventBits
  /-- `IFG` (R32). -/
  ifg : EventBits
  /-- `IV`, the status vector (R33): latched at the end of every step from `IFG`, `IE` and the turn's pick (log entry 5). -/
  iv : EventCode
  /-- `txbuf_full` (R34 (c)). -/
  txbufFull : Bool
  /-- `bus` (R34 (d)). -/
  bus : BusPhase
  /-- `rx_src` (R34 (e)): the bytes the slave has still to supply. -/
  rxSrc : List Byte
  /-- `tx_log` (R35), oldest item first. -/
  txLog : List BusItem
  /-- `wake_count` (R35). -/
  wakeCount : Nat
  /-- The command port (R38): words presented and not yet accepted, the next one first. -/
  cmds : List CmdWord
  /-- The response port (R38): what it has carried, oldest first (log entry 7). -/
  responses : List Response
  /-- The model's own field, a history that no operation reads: the completing tier of the transaction last armed has
  executed its `wake()` (R37; log entry 11). -/
  woken : Bool
  /-- The model's own field: turns placed from outside, the next one first (log entry 3). -/
  sched : List Turn
  /-- The model's own field: how many free values have been drawn (log entries 3, 4). -/
  freeCount : Nat
  deriving DecidableEq, Repr

/-- What a step or a meaning answers. -/
abbrev Result := Host.Outcome State Fault Refusal

/-- The parameters of the hardware as built: the decided ones at their decided value, the OPEN ones free (R6). -/
def Params.asBuilt : Params :=
  { clkSel := Config.clkSel
    br := Config.br
    sa := Config.sa
    nackPolicy := .ignore
    ieOther := Config.ieOther
    settleDelay := Config.settleDelay
    noEarlyEvent := false
    settleCoversStop := false }

/-- The state after reset for given parameters and a given input `rx_src`: the table of R36, and for every register it
leaves unspecified the value of log entry 1. -/
def State.resetWith (p : Params) (rxSrc : List Byte) : State :=
  { direction := .write
    txRemaining := 0
    rxRemaining := 0
    addrByte := 0
    dataByte := 0
    rxCursor := 0
    rxBuf := []
    par := p
    fg := 0
    lpm := false
    gie := false
    status := 0
    ctl :=
      { swrst := true
        mst := false
        mode := .unselected
        sync := false
        tr := false
        txstt := false
        txstp := false }
    clkSrc := 0
    br := 0
    sa := 0
    txbuf := 0
    rxbuf := 0
    ie := ⟨false, false, false, false, false, false⟩
    ifg := ⟨false, false, false, false, false, false⟩
    iv := 0
    txbufFull := false
    bus := .busIdle
    rxSrc := rxSrc
    txLog := []
    wakeCount := 0
    cmds := []
    responses := []
    woken := false
    sched := []
    freeCount := 0 }

/-- The machine right after reset (R36, R190). -/
def State.reset : State := State.resetWith Params.asBuilt Config.rxSrc

end Sys2Proof.Machine
end

