-- ==== Sys2Proof/Machine/Flags.lean ====
section
/-! DEFINITION. Machine/Flags.lean: pending and enabled causes, the status vector, and the conditions computed from
flags (R31 to R33, R37, R166 to R170). -/

namespace Sys2Proof.Machine

/-- The codes of the causes set in a register of event bits, in the order of R62. -/
def EventBits.codes (b : EventBits) : List EventCode :=
  (if b.arbLost then [Ev.arbLost] else []) ++ (if b.nack then [Ev.nack] else []) ++
  (if b.start then [Ev.start] else []) ++ (if b.stop then [Ev.stop] else []) ++
  (if b.rxFull then [Ev.rxFull] else []) ++ (if b.txEmpty then [Ev.txEmpty] else [])

/-- Bitwise and: a cause is enabled and pending (R168). -/
def EventBits.both (a b : EventBits) : EventBits :=
  { rxFull := a.rxFull && b.rxFull
    txEmpty := a.txEmpty && b.txEmpty
    arbLost := a.arbLost && b.arbLost
    nack := a.nack && b.nack
    start := a.start && b.start
    stop := a.stop && b.stop }

/-- The bit of a code; codes 0 and 7 name no class (R62). -/
def EventBits.has (b : EventBits) (c : EventCode) : Bool :=
  match c.toNat with
  | 1 => b.arbLost
  | 2 => b.nack
  | 3 => b.start
  | 4 => b.stop
  | 5 => b.rxFull
  | 6 => b.txEmpty
  | _ => false

/-- The bit of one "other" cause. -/
def EventBits.other (b : EventBits) (e : OtherEvent) : Bool :=
  match e with
  | .arbLost => b.arbLost
  | .nack => b.nack
  | .start => b.start
  | .stop => b.stop

/-- Write the bit of one "other" cause. -/
def EventBits.setOther (b : EventBits) (e : OtherEvent) (v : Bool) : EventBits :=
  match e with
  | .arbLost => { b with arbLost := v }
  | .nack => { b with nack := v }
  | .start => { b with start := v }
  | .stop => { b with stop := v }

/-- Causes both pending and enabled (R168). -/
def State.pending (s : State) : EventBits := s.ie.both s.ifg

/-- Some cause is pending and enabled (R169). -/
def State.causePending (s : State) : Bool := !s.pending.codes.isEmpty

/-- The `n`-th of a list of codes, counting round; `NONE` for the empty list. -/
def pickCode (l : List EventCode) (n : Nat) : EventCode := (l[n % l.length]?).getD Ev.none

/-- `IV` (R33): the code of one pending enabled cause, whichever the pick says (`IV_ORDER`, R170), or 0. -/
def State.latchIv (s : State) (pick : Nat) : State := { s with iv := pickCode s.pending.codes pick }

/-- `IV` is as R33 says. -/
def State.ivConsistent (s : State) : Bool :=
  s.pending.has s.iv || (decide (s.iv = Ev.none) && !s.causePending)

/-- `NACK_POLICY = Surface` (R6). -/
def State.surface (s : State) : Bool := decide (s.par.nackPolicy = .surface)

/-- The guard of R166: under `Surface`, the transaction has been aborted. -/
def State.aborted (s : State) : Bool := s.surface && decide (s.status ≠ Status.ok)

/-- `status` holds its reserved code (R68 (c)); it exists under `Surface` only (R25). -/
def State.statusReserved (s : State) : Bool := s.surface && decide (s.status = Status.reserved)

/-- Between an `*_ARM` micro-operation and the `*_SLEEP` that follows it (R169, R197). -/
def State.inArmWindow (s : State) : Bool :=
  decide (s.fg = Fg.wSleep) || decide (s.fg = Fg.r1Sleep) || decide (s.fg = Fg.r2Sleep)

/-- `IV` reports a data event, `RX_FULL` or `TX_EMPTY` (R9). -/
def State.dataEvent (s : State) : Bool := decide (s.iv = Ev.rxFull) || decide (s.iv = Ev.txEmpty)

/-- The transaction last armed is the receive of phase 2 of a `READ` (R127, R128). -/
def State.inReceivePhase (s : State) : Bool := decide (s.fg = Fg.r2Sleep) || decide (s.fg = Fg.r2Settle)

/-- The derived predicate `armed` (R9, R37): from the `*_ARM` step to the `wake()` of its transaction; from the `*_SLEEP` step
onward it is `lpm = 1`. What a `wake()` before the `*_SLEEP` leaves behind is in the history `woken` (log entry 11). -/
def State.armed (s : State) : Bool := s.lpm || (s.inArmWindow && !s.woken)

/-- `cmd_ready` of the command port (R38). -/
def State.cmdReady (s : State) : Bool := decide (s.fg = Fg.idle)

end Sys2Proof.Machine
end

