-- ==== Sys2Proof/Machine/Memory.lean ====
section
/-! DEFINITION. Machine/Memory.lean: the receive destination `rx_buf` as an address space of 3 byte cells (R40, R45). -/

namespace Sys2Proof.Machine

/-- What a cell that nothing has written reads as (R36 leaves it unspecified; log entry 1). -/
def Memory.blank : Byte := 0

/-- The byte at an address. -/
def Memory.read (m : Memory) (a : Nat) : Byte :=
  match m with
  | [] => Memory.blank
  | (k, v) :: rest => if k = a then v else Memory.read rest a

/-- Store a byte, keeping the canonical form. -/
def Memory.write (m : Memory) (a : Nat) (v : Byte) : Memory :=
  match m with
  | [] => if v = Memory.blank then [] else [(a, v)]
  | (k, w) :: rest =>
    if a < k then
      if v = Memory.blank then (k, w) :: rest else (a, v) :: (k, w) :: rest
    else if a = k then
      if v = Memory.blank then rest else (a, v) :: rest
    else (k, w) :: Memory.write rest a v

/-- Addresses rise strictly from `lo`, stay below `RX_LEN`, and no entry is blank. -/
def Memory.wfFrom (lo : Nat) (m : Memory) : Bool :=
  match m with
  | [] => true
  | (k, v) :: rest =>
    decide (lo ≤ k) && decide (k < Config.rxCells) && decide (v ≠ Memory.blank) && Memory.wfFrom (k + 1) rest

/-- The canonical form of the receive destination. -/
def Memory.wf (m : Memory) : Bool := Memory.wfFrom 0 m

end Sys2Proof.Machine
end

