-- ==== Sys2Proof/Machine/Operands.lean ====
section
/-! DEFINITION. Machine/Operands.lean: where the operations take their operands from (R64): TransactionState's two bytes,
selected by the counter; and the numbers of `direction` (R10). -/

namespace Sys2Proof.Machine

/-- The numbers of `direction` (R10, D4). -/
def Direction.code (d : Direction) : BitVec 1 :=
  match d with
  | .write => 0
  | .read => 1

/-- The byte that a `TX_EMPTY` event at counter value `tx_remaining` sends: `addr_byte` above 1, `data_byte` at 1,
nothing at 0 (R94, R95, R96). -/
def State.txOperand (s : State) : Option Byte :=
  if 1 < s.txRemaining then some s.addrByte else if s.txRemaining = 1 then some s.dataByte else none

end Sys2Proof.Machine
end

