-- ==== Sys2Proof/Machine/Ops.lean ====
section
/-! DEFINITION. Machine/Ops.lean: the named operations: the primitives of R136, `RxStore` (R41), `wake()` (R172), the
entry into the handler and the return from it (R169 to R172), and the response port (R38). -/

namespace Sys2Proof.Machine

/-- Go on with `k` unless the step has already stopped. -/
def andThen (r : Result) (k : State → Result) : Result :=
  match r with
  | .next s => k s
  | .fault f => .fault f
  | .refused x => .refused x

/-! ### The primitives of the peripheral (R136, side effects by R47) -/

/-- `P.issue_start()`. -/
def State.issueStart (s : State) : State := { s with ctl := { s.ctl with txstt := true } }

/-- `P.issue_stop()`. -/
def State.issueStop (s : State) : State := { s with ctl := { s.ctl with txstp := true } }

/-- `P.stop_pending()`: a read without effect. -/
def State.stopPending (s : State) : Bool := s.ctl.txstp

/-- `P.set_tr()`. -/
def State.setTr (s : State) : State := { s with ctl := { s.ctl with tr := true } }

/-- `P.clear_tr()`. -/
def State.clearTr (s : State) : State := { s with ctl := { s.ctl with tr := false } }

/-- `P.write_txbuf(b)` (R47 (b)). It has this effect in every state, also where U2 lets no claim rest on what follows: with
`txbuf_full = 1` the byte that waits is replaced, and off `TxActive` the byte waits (log entry 28). -/
def State.writeTxbuf (s : State) (b : Byte) : State :=
  { s with txbuf := b, txbufFull := true, ifg := { s.ifg with txEmpty := false } }

/-- `P.clear_txifg()`. -/
def State.clearTxifg (s : State) : State := { s with ifg := { s.ifg with txEmpty := false } }

/-- `P.read_rxbuf()`, the state after it; the value read is `s.rxbuf`. -/
def State.readRxbuf (s : State) : State := { s with ifg := { s.ifg with rxFull := false } }

/-- The status-vector read of an "other" cause acknowledges it (R47 (d), R168). -/
def State.ackOther (s : State) (e : OtherEvent) : State := { s with ifg := s.ifg.setOther e false }

/-- An "other" event is raised (R143): `IFG.e <- 1`. -/
def State.raiseOther (s : State) (e : OtherEvent) : State := { s with ifg := s.ifg.setOther e true }

/-! ### TransactionState (R10 to R15) -/

/-- `direction <- d`. -/
def State.setDirection (s : State) (d : Direction) : State := { s with direction := d }

/-- `tx_remaining <- n`. -/
def State.setTxRemaining (s : State) (n : Counter) : State := { s with txRemaining := n }

/-- `rx_remaining <- n`. -/
def State.setRxRemaining (s : State) (n : Counter) : State := { s with rxRemaining := n }

/-- `addr_byte <- a`. -/
def State.setAddrByte (s : State) (a : Byte) : State := { s with addrByte := a }

/-- `data_byte <- d`. -/
def State.setDataByte (s : State) (d : Byte) : State := { s with dataByte := d }

/-- `rx_cursor <- c`. -/
def State.setCursor (s : State) (c : Cursor) : State := { s with rxCursor := c }

/-- `rx_buf[rx_cursor] <- v`. -/
def State.storeCell (s : State) (v : Byte) : State :=
  { s with rxBuf := Memory.write s.rxBuf s.rxCursor.toNat v }

/-! ### Receive destination, wait flag, foreground position, ports -/

/-- `RxStore(v)` (R41): the only store; it does not change `rx_cursor`. -/
def State.rxStore (s : State) (v : Byte) : Result :=
  if Config.rxCells ≤ s.rxCursor.toNat then .fault (.rxOverrun s.rxCursor)
  else .next (s.storeCell v)

/-- The common part of the receive tiers: read `RXBUF`, store the byte (R91 to R93). -/
def State.receiveByte (s : State) : Result := s.readRxbuf.rxStore s.rxbuf

/-- `rx_cursor <- rx_cursor + 1` (R106 (b)). -/
def State.advanceCursor (s : State) : State := s.setCursor (s.rxCursor + 1)

/-- `wake()` (R172): without effect, and not remembered, when `lpm = 0`. -/
def State.wake (s : State) : State :=
  if s.lpm then { s with lpm := false, wakeCount := s.wakeCount + 1 } else s

/-- `lpm <- 1; gie <- 1`, one step (R53, R113). -/
def State.sleep (s : State) : State := { s with lpm := true, gie := true }

/-- `fg <- X` (R8, R22). -/
def State.goto (s : State) (x : FgCode) : State := { s with fg := x }

/-- `status <- x` (R163 to R165). -/
def State.setStatus (s : State) (x : StatusCode) : State := { s with status := x }

/-- What the response port carries of `status`: it exists under `Surface` only (R25, R163). -/
def State.respStatus (s : State) : Option StatusCode := if s.surface then some s.status else none

/-- One cell of the receive destination, as the host reads it (R40 (a)). -/
def State.cell (s : State) (i : Nat) : Byte := Memory.read s.rxBuf i

/-- The response port signals (R38). -/
def State.respond (s : State) (r : Response) : State := { s with responses := s.responses ++ [r] }

/-- The response of a returning `Write` (R114). -/
def State.respondWritten (s : State) : State := s.respond (.written s.respStatus)

/-- The response of a returning `Read` (R129, R163). -/
def State.respondBytes (s : State) : State :=
  s.respond (.bytes (s.cell 0) (s.cell 1) (s.cell 2) s.respStatus)

/-- A free value has been drawn (log entries 3, 4). -/
def State.countFree (s : State) : State := { s with freeCount := s.freeCount + 1 }

/-- The host presents a word at the command port; it waits there (R38). -/
def State.pushCmd (s : State) (w : CmdWord) : State := { s with cmds := s.cmds ++ [w] }

/-- The word at the command port is accepted (R38). -/
def State.popCmd (s : State) : State := { s with cmds := s.cmds.tail }

/-! ### Taking the interrupt, and returning from it -/

/-- When a handler invocation is enabled (R169): `gie = 1` and a cause pending and enabled; under `A_NO_EARLY_EVENT`,
not for a data event between an `*_ARM` and its `*_SLEEP`. -/
def State.interruptEnabled (s : State) : Bool :=
  s.gie && s.causePending && !(s.par.noEarlyEvent && s.inArmWindow && s.dataEvent)

/-- Taking the interrupt (R90, R171): it reads `IV` once, which selects the one rule of the invocation; it saves
nothing and changes no field: `fg`, `lpm`, `gie` and TransactionState are as the foreground left them. -/
def State.takeInterrupt (s : State) : Instr × State := (decodeEvent s.iv s.txRemaining s.rxRemaining, s)

/-- Return from the handler (R172): the foreground continues at `fg` if `lpm = 0` and stays suspended if `lpm = 1`;
nothing is restored, since nothing was saved. -/
def State.returnFromHandler (s : State) : State := s

end Sys2Proof.Machine
end

