-- ==== Sys2Proof/Machine/Handler.lean ====
section
/-! DEFINITION. Machine/Handler.lean: the interrupt handler's rules (41_interrupt_handler.md), with what
60_exceptions.md R164 to R166 put in their place under `NACK_POLICY = Surface`. -/

namespace Sys2Proof.Machine

/-! ### Receive tiers (`iv = RX_FULL`) -/

/-- A receive event of an aborted transaction executes only `P.read_rxbuf()`: the byte is discarded (R166). -/
def State.discardRx (s : State) : Result := .next s.readRxbuf

/-- `RX_CONT` (R91; guarded by R166). -/
def execRxCont (s : State) : Result :=
  if s.aborted then s.discardRx
  else andThen ((s.setRxRemaining (s.rxRemaining - 1)).receiveByte) fun t => .next t.advanceCursor

/-- `RX_PENULT` (R92; guarded by R166). -/
def execRxPenult (s : State) : Result :=
  if s.aborted then s.discardRx
  else andThen ((s.setRxRemaining (s.rxRemaining - 1)).receiveByte) fun t => .next t.advanceCursor.issueStop

/-- The new `rx_remaining` of `RX_LAST`: 0 from 1, else `ANY`, a free value (R93, U5). -/
def State.finishCount (s : State) : State :=
  if s.rxRemaining = 1 then s.setRxRemaining 0
  else s.countFree.setRxRemaining (Config.freeCounter s.freeCount)

/-- `RX_LAST` (R93; guarded by R166). `rx_cursor` is not advanced. -/
def execRxLast (s : State) : Result :=
  if s.aborted then s.discardRx
  else andThen s.receiveByte fun t => .next t.finishCount.wake

/-! ### Transmit tiers (`iv = TX_EMPTY`) -/

/-- A transmit event of an aborted transaction executes only `P.clear_txifg()` (R166). -/
def State.discardTx (s : State) : Result := .next s.clearTxifg

/-- `TX_ADDR` (R94; guarded by R166). -/
def execTxAddr (s : State) : Result :=
  if s.aborted then s.discardTx
  else .next ((s.writeTxbuf s.addrByte).setTxRemaining (s.txRemaining - 1))

/-- `TX_DATA` (R95; guarded by R166). -/
def execTxData (s : State) : Result :=
  if s.aborted then s.discardTx
  else .next ((s.writeTxbuf s.dataByte).setTxRemaining 0)

/-- `if direction = Read then P.clear_tr()`: the counter-exhaustion policy that `direction` selects (R10, R96). -/
def State.clearTrIfRead (s : State) : State :=
  match s.direction with
  | .write => s
  | .read => s.clearTr

/-- `TX_DONE` (R96; guarded by R166). -/
def execTxDone (s : State) : Result :=
  if s.aborted then s.discardTx
  else .next s.issueStop.clearTxifg.clearTrIfRead.wake

/-! ### Other events -/

/-- The condition under which `Surface` acts on an error event (R164, R165). -/
def State.surfacesError (s : State) : Bool := s.surface && s.lpm && decide (s.status = Status.ok)

/-- `EV_ARB_LOST` (R97; R165 under `Surface`: no stop, "the bus is owned by another master"). -/
def execEvArbLost (s : State) : Result :=
  if s.surfacesError then .next ((s.ackOther .arbLost).setStatus Status.arbLost).wake
  else .next (s.ackOther .arbLost)

/-- `EV_NACK` (R98; R164 under `Surface`). -/
def execEvNack (s : State) : Result :=
  if s.surfacesError then .next ((s.ackOther .nack).setStatus Status.nack).issueStop.clearTxifg.wake
  else .next (s.ackOther .nack)

/-- `EV_START` (R99). -/
def execEvStart (s : State) : Result := .next (s.ackOther .start)

/-- `EV_STOP` (R100): it neither writes `CTL.txstp` nor wakes the foreground. -/
def execEvStop (s : State) : Result := .next (s.ackOther .stop)

/-- `EV_NONE` (R101): no action. -/
def execEvNone (s : State) : Result := .next s

/-- The reserved event code 7: as `EV_NONE` (R68 (a), R101). -/
def execEvNoneReserved (s : State) : Result := .next s

end Sys2Proof.Machine
end

