-- ==== Sys2Proof/Machine/Init.lean ====
section
/-! DEFINITION. Machine/Init.lean: the family of 40_transaction_init.md: `CALL_WRITE`, `CALL_READ`, `R2_INIT`, and the
position `IDLE` at which commands are accepted. -/

namespace Sys2Proof.Machine

/-- `status <- Ok -- only if NACK_POLICY = Surface` (R80, R81, R163). -/
def State.clearStatus (s : State) : State := if s.surface then s.setStatus Status.ok else s

/-- `CALL_WRITE a, d` (R80). -/
def execWrite (a d : Byte) (s : State) : Result :=
  .next (((((s.setDirection .write).setTxRemaining Config.txLenWrite).setAddrByte a).setDataByte d).clearStatus.goto
    Fg.wPoll)

/-- `CALL_READ a` (R81). -/
def execRead (a : Byte) (s : State) : Result :=
  .next (((((s.setDirection .read).setTxRemaining Config.txLenSetup).setDataByte a).setCursor 0).clearStatus.goto
    Fg.r1Poll)

/-- `R2_INIT` (R82). -/
def execR2Init (s : State) : Result :=
  .next ((s.setRxRemaining Config.rxLen).goto Fg.r2Poll)

/-- `IDLE` with no command at the port (R22, R38, R65): no micro-operation, the foreground waits. -/
def execIdle (s : State) : Result := .next s

end Sys2Proof.Machine
end

