-- ==== Sys2Proof/Machine/WriteDriver.lean ====
section
/-! DEFINITION. Machine/WriteDriver.lean: the foreground micro-operations of `WRITE` (42_driver_write.md), over three
shared forms that `READ` uses too, and the reserved foreground codes (30_encoding.md R68). -/

namespace Sys2Proof.Machine

/-- `*_POLL`: busy-wait while the stop is pending, else go on to `succ` (R111, R121, R126). -/
def State.poll (s : State) (self succ : FgCode) : Result :=
  .next (if s.stopPending then s.goto self else s.goto succ)

/-- `*_ARM` as transmitter: `P.set_tr(); P.issue_start()`, one register write (R112, R122). -/
def State.armTransmit (s : State) (succ : FgCode) : Result := .next (s.setTr.issueStart.goto succ)

/-- `*_SLEEP`: enter the low-power wait with interrupts enabled; `fg` already names the resume point (R113, R123, R128). -/
def State.suspend (s : State) (succ : FgCode) : Result := .next (s.sleep.goto succ)

/-- `W_POLL` (R111). -/
def execWPoll (s : State) : Result := s.poll Fg.wPoll Fg.wArm

/-- `W_ARM` (R112). -/
def execWArm (s : State) : Result := s.armTransmit Fg.wSleep

/-- `W_SLEEP` (R113). -/
def execWSleep (s : State) : Result := s.suspend Fg.wSettle

/-- `W_SETTLE` (R114): the delay changes no state; return to the host. -/
def execWSettle (s : State) : Result := .next (s.respondWritten.goto Fg.idle)

/-- `fg = 14`: outside the model, fault (R68 (b), R180). -/
def execFgReserved14 (_s : State) : Result := .fault (.reservedEncoding 14)

/-- `fg = 15`: outside the model, fault (R68 (b), R180). -/
def execFgReserved15 (_s : State) : Result := .fault (.reservedEncoding 15)

end Sys2Proof.Machine
end

