-- ==== Sys2Proof/Machine/ReadDriver.lean ====
section
/-! DEFINITION. Machine/ReadDriver.lean: the foreground micro-operations of `READ` (43_driver_read.md). -/

namespace Sys2Proof.Machine

/-- `R1_POLL` (R121). -/
def execR1Poll (s : State) : Result := s.poll Fg.r1Poll Fg.r1Arm

/-- `R1_ARM` (R122). -/
def execR1Arm (s : State) : Result := s.armTransmit Fg.r1Sleep

/-- `R1_SLEEP` (R123). -/
def execR1Sleep (s : State) : Result := s.suspend Fg.r1Settle

/-- `R1_SETTLE` (R124); under `Surface` with `status != Ok` the call returns without a phase 2 (R163). -/
def execR1Settle (s : State) : Result :=
  if s.aborted then .next (s.respondBytes.goto Fg.idle) else .next (s.goto Fg.r2Init)

/-- `R2_POLL` (R126). -/
def execR2Poll (s : State) : Result := s.poll Fg.r2Poll Fg.r2Arm

/-- `R2_ARM` (R127): as receiver, `CTL.tr` is not written. -/
def execR2Arm (s : State) : Result := .next (s.issueStart.goto Fg.r2Sleep)

/-- `R2_SLEEP` (R128). -/
def execR2Sleep (s : State) : Result := s.suspend Fg.r2Settle

/-- `R2_SETTLE` (R129): return whatever `rx_buf` holds, in index order. -/
def execR2Settle (s : State) : Result := .next (s.respondBytes.goto Fg.idle)

end Sys2Proof.Machine
end

