-- ==== Sys2Proof/Machine/Dispatch.lean ====
section
/-! DEFINITION. Machine/Dispatch.lean: the meaning of every operation, one arm per constructor of Instr. -/

namespace Sys2Proof.Machine

/-- The effect of one operation, once it has been selected (30_encoding.md R65 to R67). -/
def exec (i : Instr) (s : State) : Host.Outcome State Fault Refusal :=
  match i with
  | .write a d => Sys2Proof.Machine.execWrite a d s
  | .read a => Sys2Proof.Machine.execRead a s
  | .rxCont => Sys2Proof.Machine.execRxCont s
  | .rxPenult => Sys2Proof.Machine.execRxPenult s
  | .rxLast => Sys2Proof.Machine.execRxLast s
  | .txAddr => Sys2Proof.Machine.execTxAddr s
  | .txData => Sys2Proof.Machine.execTxData s
  | .txDone => Sys2Proof.Machine.execTxDone s
  | .evArbLost => Sys2Proof.Machine.execEvArbLost s
  | .evNack => Sys2Proof.Machine.execEvNack s
  | .evStart => Sys2Proof.Machine.execEvStart s
  | .evStop => Sys2Proof.Machine.execEvStop s
  | .evNone => Sys2Proof.Machine.execEvNone s
  | .evNoneReserved => Sys2Proof.Machine.execEvNoneReserved s
  | .idle => Sys2Proof.Machine.execIdle s
  | .wPoll => Sys2Proof.Machine.execWPoll s
  | .wArm => Sys2Proof.Machine.execWArm s
  | .wSleep => Sys2Proof.Machine.execWSleep s
  | .wSettle => Sys2Proof.Machine.execWSettle s
  | .r1Poll => Sys2Proof.Machine.execR1Poll s
  | .r1Arm => Sys2Proof.Machine.execR1Arm s
  | .r1Sleep => Sys2Proof.Machine.execR1Sleep s
  | .r1Settle => Sys2Proof.Machine.execR1Settle s
  | .r2Init => Sys2Proof.Machine.execR2Init s
  | .r2Poll => Sys2Proof.Machine.execR2Poll s
  | .r2Arm => Sys2Proof.Machine.execR2Arm s
  | .r2Sleep => Sys2Proof.Machine.execR2Sleep s
  | .r2Settle => Sys2Proof.Machine.execR2Settle s
  | .fgReserved14 => Sys2Proof.Machine.execFgReserved14 s
  | .fgReserved15 => Sys2Proof.Machine.execFgReserved15 s

end Sys2Proof.Machine
end

