-- ==== Sys2Proof/Machine/Peripheral.lean ====
section
/-! DEFINITION. Machine/Peripheral.lean: the reference peripheral (44_peripheral_agent.md R137 to R145) and the boot
sequence that configures it (70_reset_and_hazards.md R192). -/

namespace Sys2Proof.Machine

/-- When a step of the reference peripheral is enabled; none is while `CTL.swrst = 1` (R137). Each condition is the one its
rule states, whatever led to the state: after a use outside the protocol (R145, U2) a step is enabled again once its own
condition holds (log entry 28). -/
def State.periphEnabled (s : State) (p : PeriphStep) : Bool :=
  !s.ctl.swrst &&
  match p with
  | .start => s.ctl.txstt && !s.ctl.txstp && decide (s.bus = .busIdle)
  | .txTake => decide (s.bus = .txActive) && s.txbufFull
  | .txStop => decide (s.bus = .txActive) && s.ctl.txstp && !s.txbufFull
  | .rxByte => decide (s.bus = .rxActive) && !s.ifg.rxFull && !s.rxSrc.isEmpty
  | .rxStop => decide (s.bus = .rxStopping)
  | .other _ => true

/-- Put an item on the bus (R35). -/
def State.logBus (s : State) (x : BusItem) : State := { s with txLog := s.txLog ++ [x] }

/-- `P_START` (R138). -/
def State.pStart (s : State) : State :=
  if s.ctl.tr then
    { s.logBus .startW with
      bus := .txActive
      ifg := { s.ifg with txEmpty := true }
      ctl := { s.ctl with txstt := false } }
  else
    { s.logBus .startR with
      bus := .rxActive
      ctl := { s.ctl with txstt := false } }

/-- `P_TX_TAKE` (R139): this is when a byte counts as clocked onto the bus. -/
def State.pTxTake (s : State) : State :=
  { s.logBus (.byte s.txbuf) with
    txbufFull := false
    ifg := { s.ifg with txEmpty := true } }

/-- A stop condition completes: `P_TX_STOP` (R140) and `P_RX_STOP` (R142). -/
def State.completeStop (s : State) : State :=
  { s.logBus .stop with
    ctl := { s.ctl with txstp := false }
    bus := .busIdle }

/-- Deliver `v`, leaving `rest` to supply. -/
def State.deliver (s : State) (v : Byte) (rest : List Byte) : State :=
  { s with
    rxbuf := v
    rxSrc := rest
    ifg := { s.ifg with rxFull := true }
    bus := if s.ctl.txstp then .rxStopping else s.bus }

/-- `P_RX_BYTE` (R141): a stop asserted before this byte makes it the final one. Without a byte in `rx_src` the step is
not enabled. -/
def State.pRxByte (s : State) : State :=
  match s.rxSrc with
  | [] => s
  | v :: rest => s.deliver v rest

/-- The effect of an enabled step. -/
def State.periphDo (s : State) (p : PeriphStep) : State :=
  match p with
  | .start => s.pStart
  | .txTake => s.pTxTake
  | .txStop => s.completeStop
  | .rxByte => s.pRxByte
  | .rxStop => s.completeStop
  | .other e => s.raiseOther e

/-- A turn of the peripheral: it takes the step if it is enabled, else none (R144, R145: it stalls). -/
def State.periphStep (s : State) (p : PeriphStep) : State :=
  if s.periphEnabled p then s.periphDo p else s

/-- `CONFIG` (R192), its writes in the listed order; one step, since no other agent can tell (log entry 8). -/
def State.bootConfig (s : State) : State :=
  { s with
    ctl := { s.ctl with mst := true, mode := .i2c, sync := true, swrst := false }
    clkSrc := s.par.clkSel
    br := s.par.br
    sa := s.par.sa
    ie :=
      { rxFull := true
        txEmpty := true
        arbLost := s.par.ieOther.arbLost
        nack := s.par.ieOther.nack
        start := s.par.ieOther.start
        stop := s.par.ieOther.stop } }

/-- The boot sequence is still to run: the peripheral is held in software reset, which only `CONFIG` ends (R190, R192). -/
def State.bootDue (s : State) : Bool := s.ctl.swrst && decide (s.fg = Fg.idle) && !s.lpm

end Sys2Proof.Machine
end

