-- ==== Sys2Proof/Machine/Fetch.lean ====
section
/-! DEFINITION. Machine/Fetch.lean: whose turn it is, which operation that agent runs next, what a turn without an
operation does, and how an operation is placed so that it runs next (00_scope.md R3, 30_encoding.md R65 to R68,
60_exceptions.md R169 to R173). -/

namespace Sys2Proof.Machine

/-! ### Turns -/

/-- The turn this step gives: the next one placed, else a free one (log entry 3). -/
def State.turn (s : State) : Turn :=
  match s.sched with
  | [] => Config.freeTurn s.freeCount
  | t :: _ => t

/-- The state once the turn has been drawn. -/
def State.takeTurn (s : State) : State :=
  match s.sched with
  | [] => s.countFree
  | _ :: ts => { s with sched := ts }

/-- Keep the history `woken` in the state that the operation `i` has left (R37; log entry 11): an `*_ARM` starts a
transaction; its completing tier, `TX_DONE` for a transmit and `RX_LAST` for a receive (R103), unless the transaction is
aborted and the tier does not run (R166), has executed its `wake()`. -/
def State.noteWake (s : State) (i : Instr) : State :=
  match i with
  | .wArm | .r1Arm | .r2Arm => { s with woken := false }
  | .txDone => { s with woken := s.woken || (!s.aborted && !s.inReceivePhase) }
  | .rxLast => { s with woken := s.woken || (!s.aborted && s.inReceivePhase) }
  | .write _ _ | .read _ | .rxCont | .rxPenult | .txAddr | .txData => s
  | .evArbLost | .evNack | .evStart | .evStop | .evNone | .evNoneReserved => s
  | .idle | .wPoll | .wSleep | .wSettle | .r1Poll | .r1Sleep | .r1Settle => s
  | .r2Init | .r2Poll | .r2Sleep | .r2Settle | .fgReserved14 | .fgReserved15 => s

/-- The end of a turn: a handler returns (R172), and the status vector reports a pending cause again (R33, R170). -/
def State.endTurn (s : State) (t : Turn) : State :=
  match t.move with
  | .interrupt => s.returnFromHandler.latchIv t.ivPick
  | .foreground => s.latchIv t.ivPick
  | .peripheral _ => s.latchIv t.ivPick
  | .host _ => s.latchIv t.ivPick

/-! ### Which operation runs -/

/-- The micro-operation in `fg` would return from `Read` (R129, R163). -/
def State.returnsRead (s : State) : Bool :=
  decide (s.fg = Fg.r2Settle) || (decide (s.fg = Fg.r1Settle) && s.aborted)

/-- `A_SETTLE_COVERS_STOP`: `Read` does not return before its last stop has completed (R6, R130, R203). -/
def State.returnHeld (s : State) : Bool := s.par.settleCoversStop && s.returnsRead && s.ctl.txstp

/-- The foreground's next operation and the state it runs in (R38, R65, R67). None while `lpm = 1`; at `IDLE` nothing but
`CONFIG` before the boot sequence, then the word at the command port, which is consumed, or `IDLE` itself. -/
def State.fetchForeground (s : State) : Option (Instr × State) :=
  if s.lpm then none
  else if s.fg = Fg.idle then
    if s.ctl.swrst then none
    else
      match s.cmds with
      | [] => some (.idle, s)
      | w :: _ => some (decodeCommand w, s.popCmd)
  else if s.returnHeld then none
  else some (decodePosition s.fg, s)

/-- The operation of a turn, if it has one. -/
def State.fetch (s : State) (m : Move) : Option (Instr × State) :=
  match m with
  | .foreground => s.fetchForeground
  | .interrupt => if s.interruptEnabled then some s.takeInterrupt else none
  | .peripheral _ => none
  | .host _ => none

/-- What a turn without an operation does: the boot sequence (R192), a step of the peripheral (R137 to R145), a command
presented by the host (R38); an agent that has no enabled step passes (log entry 3). -/
def State.environment (s : State) (m : Move) : State :=
  match m with
  | .foreground => if s.bootDue then s.bootConfig else s
  | .interrupt => s
  | .peripheral p => s.periphStep p
  | .host w => s.pushCmd w

/-! ### Placing an operation -/

/-- Clear what would keep any operation from being the next: reserved codes, and the two assumptions that hold a step back. -/
def State.unblock (s : State) : State :=
  { s with
    fg := if fgReserved s.fg then Fg.idle else s.fg
    status := if s.status = Status.reserved then Status.ok else s.status
    par := { s.par with noEarlyEvent := false, settleCoversStop := false } }

/-- A foreground turn is next, with the foreground at `x`. -/
def State.placeForeground (s : State) (x : FgCode) : State :=
  { s with fg := x, lpm := false, sched := ⟨.foreground, 0⟩ :: s.sched }

/-- A handler turn is next, with the vector reading `c` (log entry 13): interrupts enabled, the cause of `c` pending and
enabled (the codes 0 and 7 name none, so the cause `START` stands in), and the counter at which a data code is read. -/
def State.placeEvent (s : State) (c : EventCode) : State :=
  let s := { s with gie := true, iv := c, sched := ⟨.interrupt, 0⟩ :: s.sched }
  match c.toNat with
  | 1 => { s with ie := { s.ie with arbLost := true }, ifg := { s.ifg with arbLost := true } }
  | 2 => { s with ie := { s.ie with nack := true }, ifg := { s.ifg with nack := true } }
  | 4 => { s with ie := { s.ie with stop := true }, ifg := { s.ifg with stop := true } }
  | 5 =>
    { s with
      ie := { s.ie with rxFull := true }
      ifg := { s.ifg with rxFull := true }
      rxRemaining := tableRx }
  | 6 =>
    { s with
      ie := { s.ie with txEmpty := true }
      ifg := { s.ifg with txEmpty := true }
      txRemaining := tableTx }
  | _ => { s with ie := { s.ie with start := true }, ifg := { s.ifg with start := true } }

/-- Place a code where the next step fetches it: a command at the port of a configured, idle block; an event in the
status vector; a position in `fg`. -/
def State.place (s : State) (c : Code) : State :=
  match c with
  | .command w =>
    { s.unblock.placeForeground Fg.idle with
      ctl := { s.ctl with swrst := false }
      cmds := w :: s.cmds }
  | .event iv => s.unblock.placeEvent iv
  | .position fg =>
    if fg = Fg.idle then
      { s.unblock.placeForeground Fg.idle with
        ctl := { s.ctl with swrst := false }
        cmds := [] }
    else s.unblock.placeForeground fg

end Sys2Proof.Machine
end

