-- ==== Sys2Proof/Machine/Step.lean ====
section
/-! DEFINITION. Machine/Step.lean: one step of the machine (00_scope.md R3), and how the host places an instruction. -/

namespace Sys2Proof.Machine

/-- One step: a state with a reserved code faults (R68, R180); else the agent whose turn it is runs its operation, or,
when it has none, does what `environment` says. -/
def step (s : State) : Host.Outcome State Fault Refusal :=
  if fgReserved s.fg then exec (decodePosition s.fg) s
  else if s.statusReserved then .fault (.reservedEncoding s.status.toNat)
  else
    match s.takeTurn.fetch s.turn.move with
    | some (i, t) => andThen (exec i t) fun u => .next ((u.noteWake i).endTurn s.turn)
    | none => .next ((s.takeTurn.environment s.turn.move).endTurn s.turn)

/-- The host's placement of `nbits` bits of value `w` (log entries 13, 14); bits that are no code leave the state as it is. -/
def State.withFetchWord (s : State) (nbits w : Nat) : State :=
  match codeOfBits nbits w with
  | .ok c => s.place c
  | .error _ => s

end Sys2Proof.Machine
end

