-- ==== Sys2Proof/WellFormed.lean ====
section
/-! DEFINITION. WellFormed.lean: which operations and which parameter choices the spec admits. Operand ranges are in the
types (every byte is legal, R61), so what is left to check is the reserved foreground codes and one condition on
`IE_OTHER`. -/

namespace Sys2Proof

/-- An operation of the block: every row but the two reserved foreground codes (R68 (b)). -/
def Instr.wf (i : Instr) : Bool :=
  match i with
  | .fgReserved14 => false
  | .fgReserved15 => false
  | .write _ _ | .read _ => true
  | .rxCont | .rxPenult | .rxLast | .txAddr | .txData | .txDone => true
  | .evArbLost | .evNack | .evStart | .evStop | .evNone | .evNoneReserved => true
  | .idle | .wPoll | .wArm | .wSleep | .wSettle => true
  | .r1Poll | .r1Arm | .r1Sleep | .r1Settle => true
  | .r2Init | .r2Poll | .r2Arm | .r2Sleep | .r2Settle => true

/-- `Surface` requires `IE.nack = IE.arb_lost = 1` (R31, R163); `Ignore` admits every `IE_OTHER`. -/
def ieOtherWf (policy : NackPolicy) (o : IeOther) : Bool :=
  match policy with
  | .ignore => true
  | .surface => o.nack && o.arbLost

end Sys2Proof
end

