-- ==== Sys2Proof/Safety.lean ====
section
/-! DEFINITION. Safety.lean: the terms claims are made in: runs, their ends and hangs (R206), fairness (R144), the state before
the first command (R193), the protocol the agents keep under `NACK_POLICY = Ignore` (R17 to R19, R83, R102, R103, R145),
and what one `WRITE` and one `READ` have done so far (R115, R130). -/

namespace Sys2Proof.Machine

/-! ### Parameters and the start of a run -/

/-- The parameters respect the requirement of `Surface` on `IE_OTHER` (R31, R163). -/
def Params.wf (p : Params) : Bool := ieOtherWf p.nackPolicy p.ieOther

/-- What must hold before the first command (R193). -/
def State.readyForCommands (s : State) : Prop :=
  s.ctl.swrst = false ∧ s.ctl.txstp = false ∧ s.ctl.txstt = false ∧
  s.ifg = ⟨false, false, false, false, false, false⟩ ∧ s.ie.rxFull = true ∧ s.ie.txEmpty = true ∧
  s.bus = .busIdle ∧ s.fg = Fg.idle ∧ s.lpm = false

/-! ### One step, seen from outside -/

/-- TransactionState and the receive destination are the same (R10 to R16). -/
def State.sameTransaction (s t : State) : Prop :=
  t.direction = s.direction ∧ t.txRemaining = s.txRemaining ∧ t.rxRemaining = s.rxRemaining ∧
  t.addrByte = s.addrByte ∧ t.dataByte = s.dataByte ∧ t.rxCursor = s.rxCursor ∧ t.rxBuf = s.rxBuf

/-- The step from `s` accepts the command `i` (R38, R65). -/
def State.accepts (s : State) (i : Instr) : Prop :=
  s.turn.move = .foreground ∧ s.fg = Fg.idle ∧ s.lpm = false ∧ s.ctl.swrst = false ∧
  ∃ w ws, s.cmds = w :: ws ∧ decodeCommand w = i

/-- `n` steps, as far as they go on. -/
def runSteps (n : Nat) (s : State) : Result :=
  match n with
  | 0 => .next s
  | k + 1 => andThen (step s) (runSteps k)

/-! ### Runs, their ends, and hangs (R206) -/

/-- The turn is a step of R138 to R142; `P_OTHER` is none. -/
def isBusStep (m : Move) : Bool :=
  match m with
  | .peripheral .start | .peripheral .txTake | .peripheral .txStop | .peripheral .rxByte | .peripheral .rxStop => true
  | .peripheral (.other _) => false
  | .foreground | .interrupt | .host _ => false

/-- The host, which has the words `h` still to present, has `h'` after the turn: it presents its list in order. -/
def presents (m : Move) (h h' : List CmdWord) : Prop :=
  match m with
  | .host w => h = w :: h'
  | .foreground | .interrupt | .peripheral _ => h' = h

/-- `s` occurs in a run of the finite list of commands `ws`, with the words `h` still to be presented (R206): the run starts
in the state after `CONFIG`, with any turns to come (log entry 30). -/
inductive InRun (p : Params) (src : List Byte) (ws : List CmdWord) : State → List CmdWord → Prop where
  | start (ts : List Turn) (n : Nat) :
    InRun p src ws { (State.resetWith p src).bootConfig with sched := ts, freeCount := n } ws
  | extend (s t : State) (h h' : List CmdWord) :
    InRun p src ws s h → step s = .next t → presents s.turn.move h h' → InRun p src ws t h'

/-- The commands that have been answered, wait, are still to be presented, or are being executed. -/
def State.commandCount (s : State) (h : List CmdWord) : Nat :=
  s.responses.length + s.cmds.length + h.length + (if s.fg = Fg.idle then 0 else 1)

/-- Some step of R138 to R142 is enabled. -/
def State.periphBusy (s : State) : Bool :=
  s.periphEnabled .start || s.periphEnabled .txTake || s.periphEnabled .txStop || s.periphEnabled .rxByte ||
  s.periphEnabled .rxStop

/-- A run has ended (R206): after `CONFIG`, no call is in progress, no command waits or is still to be presented (`h`), and no
step of R138 to R142 is enabled. R206's "so the last stop has completed and `bus = BusIdle`" is taken as a consequence, not as
a further condition: under `Ignore` it follows, under `Surface` it need not (log entry 30). -/
def State.ended (s : State) (h : List CmdWord) : Bool :=
  !s.ctl.swrst && decide (s.fg = Fg.idle) && s.cmds.isEmpty && h.isEmpty && !s.lpm && !s.periphBusy

/-- The first form of a hang, of a state (R206): the foreground is suspended and no step is enabled. The steps that count are a
handler invocation and those of R138 to R142, also one that a stalled peripheral will never take; `P_OTHER` and the host's
turns are left out (log entry 29). -/
def State.hung (s : State) : Bool := s.lpm && !s.interruptEnabled && !s.periphBusy

/-- The foreground runs, and its next micro-operation is a `*_POLL`. -/
def State.polling (s : State) : Bool :=
  !s.lpm && (decide (s.fg = Fg.wPoll) || decide (s.fg = Fg.r1Poll) || decide (s.fg = Fg.r2Poll))

/-- A run of the machine without end. -/
def IsRun (r : Nat → State) : Prop := ∀ n, step (r n) = .next (r (n + 1))

/-- The first form of a hang, of a run (R199): from some point on the foreground stays suspended, though the handler's turns
recur. A step of the peripheral may be enabled all the time and never taken (log entry 29). -/
def SuspendedForEver (r : Nat → State) : Prop :=
  ∃ n, ∀ m, n ≤ m → (r m).lpm = true ∧ ∃ k, m ≤ k ∧ (r k).turn.move = .interrupt

/-- The second form of a hang (R199, R206): from some point on the foreground executes one `*_POLL` over and over. -/
def PollsForEver (r : Nat → State) : Prop :=
  ∃ n, ∀ m, n ≤ m → (r m).polling = true ∧ (r m).fg = (r n).fg ∧ ∃ k, m ≤ k ∧ (r k).turn.move = .foreground

/-- A run without end hangs (R199, R206): it comes to a state with no enabled step, or stays suspended, or polls, for ever (log
entry 29). -/
def Hangs (r : Nat → State) : Prop := (∃ n, (r n).hung = true) ∨ SuspendedForEver r ∨ PollsForEver r

/-- `A_FAIR_PERIPHERAL` (R144), of a run: a step of R138 to R142 that stays enabled is eventually taken, and `rx_src`
holds at least 3 bytes at the start of each phase 2. -/
def FairPeripheral (r : Nat → State) : Prop :=
  (∀ p : PeriphStep, (∀ e, p ≠ .other e) → ∀ n,
    (∀ m, n ≤ m → (r m).periphEnabled p = true) → ∃ m, n ≤ m ∧ (r m).turn.move = .peripheral p) ∧
  (∀ n, (r n).fg = Fg.r2Init → 3 ≤ (r n).rxSrc.length)

/-! ### The protocol under `Ignore` -/

/-- No data event is pending, no byte waits in `TXBUF`, and no start is requested. -/
def State.quiet (s : State) : Prop :=
  s.ifg.rxFull = false ∧ s.ifg.txEmpty = false ∧ s.txbufFull = false ∧ s.ctl.txstt = false

/-- Quiet, and the bus is free of stops. -/
def State.free (s : State) : Prop := s.quiet ∧ s.bus = .busIdle ∧ s.ctl.txstp = false

/-- Quiet, and a stop that was issued has still to complete. -/
def State.releasing (s : State) : Prop :=
  s.quiet ∧ (s.bus = .txActive ∨ s.bus = .rxStopping) ∧ s.ctl.txstp = true

/-- Between two transactions. -/
def State.released (s : State) : Prop := s.free ∨ s.releasing

/-- A transmit transaction has been armed and has not issued its stop. -/
def State.transmitting (s : State) : Prop :=
  s.ifg.rxFull = false ∧ s.ctl.txstp = false ∧ s.ctl.tr = true ∧
  ((s.ctl.txstt = true ∧ s.bus = .busIdle ∧ s.ifg.txEmpty = false ∧ s.txbufFull = false) ∨
   (s.ctl.txstt = false ∧ s.bus = .txActive ∧ s.ifg.txEmpty = true ∧ s.txbufFull = false) ∨
   (s.ctl.txstt = false ∧ s.bus = .txActive ∧ s.ifg.txEmpty = false ∧ s.txbufFull = true))

/-- A receive transaction has been armed and its final byte has not been stored: the off-by-one order of R102. -/
def State.receiving (s : State) : Prop :=
  s.ifg.txEmpty = false ∧ s.txbufFull = false ∧ s.ctl.tr = false ∧
  ((s.ctl.txstt = true ∧ s.bus = .busIdle ∧ s.ctl.txstp = false ∧ s.ifg.rxFull = false ∧
      s.rxRemaining = 3 ∧ s.rxCursor = 0) ∨
   (s.ctl.txstt = false ∧ s.bus = .rxActive ∧ s.ctl.txstp = false ∧ s.rxRemaining = 3 ∧ s.rxCursor = 0) ∨
   (s.ctl.txstt = false ∧ s.bus = .rxActive ∧ s.ctl.txstp = false ∧ s.rxRemaining = 2 ∧ s.rxCursor = 1) ∨
   (s.ctl.txstt = false ∧ s.bus = .rxActive ∧ s.ctl.txstp = true ∧ s.ifg.rxFull = false ∧
      s.rxRemaining = 1 ∧ s.rxCursor = 2) ∨
   (s.ctl.txstt = false ∧ s.bus = .rxStopping ∧ s.ctl.txstp = true ∧ s.ifg.rxFull = true ∧
      s.rxRemaining = 1 ∧ s.rxCursor = 2) ∨
   (s.ctl.txstt = false ∧ s.bus = .busIdle ∧ s.ctl.txstp = false ∧ s.ifg.rxFull = true ∧
      s.rxRemaining = 1 ∧ s.rxCursor = 2))

/-- Phase 1 of a `READ` is over: the transmitter direction has been cleared (R96). -/
def State.setupDone (s : State) : Prop := s.released ∧ s.ctl.tr = false

/-- Phase 2 of a `READ` is over. -/
def State.receiveDone (s : State) : Prop :=
  s.released ∧ s.ctl.tr = false ∧ s.rxRemaining = 0 ∧ s.rxCursor = 2

/-- Where the foreground stands, against where the transaction stands. -/
def State.inPhase (s : State) : Prop :=
  (s.fg = Fg.idle ∧ s.lpm = false ∧ s.released) ∨
  (s.fg = Fg.wPoll ∧ s.lpm = false ∧ s.direction = .write ∧ s.released) ∨
  (s.fg = Fg.wArm ∧ s.lpm = false ∧ s.direction = .write ∧ s.free) ∨
  (s.fg = Fg.wSleep ∧ s.lpm = false ∧ s.direction = .write ∧ (s.transmitting ∨ s.released)) ∨
  (s.fg = Fg.wSettle ∧ s.lpm = true ∧ s.direction = .write ∧ (s.transmitting ∨ s.released)) ∨
  (s.fg = Fg.wSettle ∧ s.lpm = false ∧ s.direction = .write ∧ s.released) ∨
  (s.fg = Fg.r1Poll ∧ s.lpm = false ∧ s.direction = .read ∧ s.rxCursor = 0 ∧ s.released) ∨
  (s.fg = Fg.r1Arm ∧ s.lpm = false ∧ s.direction = .read ∧ s.rxCursor = 0 ∧ s.free) ∨
  (s.fg = Fg.r1Sleep ∧ s.lpm = false ∧ s.direction = .read ∧ s.rxCursor = 0 ∧ (s.transmitting ∨ s.setupDone)) ∨
  (s.fg = Fg.r1Settle ∧ s.lpm = true ∧ s.direction = .read ∧ s.rxCursor = 0 ∧ (s.transmitting ∨ s.setupDone)) ∨
  (s.fg = Fg.r1Settle ∧ s.lpm = false ∧ s.direction = .read ∧ s.rxCursor = 0 ∧ s.setupDone) ∨
  (s.fg = Fg.r2Init ∧ s.lpm = false ∧ s.direction = .read ∧ s.rxCursor = 0 ∧ s.setupDone) ∨
  (s.fg = Fg.r2Poll ∧ s.lpm = false ∧ s.direction = .read ∧ s.rxCursor = 0 ∧ s.rxRemaining = 3 ∧ s.setupDone) ∨
  (s.fg = Fg.r2Arm ∧ s.lpm = false ∧ s.direction = .read ∧ s.rxCursor = 0 ∧ s.rxRemaining = 3 ∧
    s.free ∧ s.ctl.tr = false) ∨
  (s.fg = Fg.r2Sleep ∧ s.lpm = false ∧ s.direction = .read ∧ (s.receiving ∨ s.receiveDone)) ∨
  (s.fg = Fg.r2Settle ∧ s.lpm = true ∧ s.direction = .read ∧ (s.receiving ∨ s.receiveDone)) ∨
  (s.fg = Fg.r2Settle ∧ s.lpm = false ∧ s.direction = .read ∧ s.receiveDone)

/-- The protocol invariant: under `Ignore`, with the status vector as R33 says, foreground and transaction are in step. -/
def State.protocol (s : State) : Prop :=
  s.par.nackPolicy = .ignore ∧ s.ivConsistent = true ∧ s.inPhase

/-! ### One `WRITE` (R110, R115) -/

/-- `tx_log` is `log`, but for a stop of the transaction before that has still to complete. -/
def State.logSettles (s : State) (log : List BusItem) : Prop :=
  (s.free ∧ s.txLog = log) ∨ (s.releasing ∧ s.txLog ++ [BusItem.stop] = log)

/-- The transmit transaction of `WRITE a, d` on a bus whose log was `log`, before its stop is issued. -/
def State.writeSending (s : State) (a d : Byte) (log : List BusItem) : Prop :=
  s.ifg.rxFull = false ∧ s.ctl.txstp = false ∧ s.ctl.tr = true ∧
  ((s.ctl.txstt = true ∧ s.bus = .busIdle ∧ s.ifg.txEmpty = false ∧ s.txbufFull = false ∧
      s.txRemaining = 2 ∧ s.txLog = log) ∨
   (s.ctl.txstt = false ∧ s.bus = .txActive ∧ s.ifg.txEmpty = true ∧ s.txbufFull = false ∧
      ((s.txRemaining = 2 ∧ s.txLog = log ++ [BusItem.startW]) ∨
       (s.txRemaining = 1 ∧ s.txLog = log ++ [BusItem.startW, BusItem.byte a]) ∨
       (s.txRemaining = 0 ∧ s.txLog = log ++ [BusItem.startW, BusItem.byte a, BusItem.byte d]))) ∨
   (s.ctl.txstt = false ∧ s.bus = .txActive ∧ s.ifg.txEmpty = false ∧ s.txbufFull = true ∧
      ((s.txRemaining = 1 ∧ s.txbuf = a ∧ s.txLog = log ++ [BusItem.startW]) ∨
       (s.txRemaining = 0 ∧ s.txbuf = d ∧ s.txLog = log ++ [BusItem.startW, BusItem.byte a]))))

/-- Both bytes of `WRITE a, d` have been clocked onto the bus and its stop has been issued; it may have completed (R115). -/
def State.writeSent (s : State) (a d : Byte) (log : List BusItem) : Prop :=
  s.txRemaining = 0 ∧ s.quiet ∧
  ((s.bus = .txActive ∧ s.ctl.txstp = true ∧ s.txLog = log ++ [BusItem.startW, BusItem.byte a, BusItem.byte d]) ∨
   (s.bus = .busIdle ∧ s.ctl.txstp = false ∧ s.txLog = log ++ [BusItem.startW, BusItem.byte a, BusItem.byte d, BusItem.stop]))

/-- The block is executing `WRITE a, d`, accepted when the log was to settle to `log`, `wake_count` was `w` and the
response port had carried `rs`. -/
def State.writeCall (s : State) (a d : Byte) (log : List BusItem) (w : Nat) (rs : List Response) : Prop :=
  s.par.nackPolicy = .ignore ∧ s.ivConsistent = true ∧ s.direction = .write ∧ s.addrByte = a ∧ s.dataByte = d ∧
  s.responses = rs ∧
  ((s.fg = Fg.wPoll ∧ s.lpm = false ∧ s.wakeCount = w ∧ s.txRemaining = 2 ∧ s.logSettles log) ∨
   (s.fg = Fg.wArm ∧ s.lpm = false ∧ s.wakeCount = w ∧ s.txRemaining = 2 ∧ s.free ∧ s.txLog = log) ∨
   (s.fg = Fg.wSleep ∧ s.lpm = false ∧ s.wakeCount = w ∧ (s.writeSending a d log ∨ s.writeSent a d log)) ∨
   (s.fg = Fg.wSettle ∧ s.lpm = true ∧ s.wakeCount = w ∧ (s.writeSending a d log ∨ s.writeSent a d log)) ∨
   (s.fg = Fg.wSettle ∧ s.lpm = false ∧ s.wakeCount = w + 1 ∧ s.writeSent a d log))

/-- `WRITE a, d` has returned with the guarantees of R115 and R116. -/
def State.writeReturned (s : State) (a d : Byte) (log : List BusItem) (w : Nat) (rs : List Response) : Prop :=
  s.fg = Fg.idle ∧ s.lpm = false ∧ s.wakeCount = w + 1 ∧ s.responses = rs ++ [Response.written none] ∧ s.writeSent a d log

/-- The turns of a `WRITE` that nothing delays: acceptance, `W_POLL`, `W_ARM`, `W_SLEEP`, then the peripheral and the
handler by turns, and `W_SETTLE` (R110). -/
def writeTurns : List Turn :=
  [.foreground, .foreground, .foreground, .foreground, .peripheral .start, .interrupt, .peripheral .txTake, .interrupt,
   .peripheral .txTake, .interrupt, .foreground].map fun m => ⟨m, 0⟩

/-! ### One `READ` (R120, R130) -/

/-- Phase 1 of `READ a`, before its stop is issued. -/
def State.setupSending (s : State) (a : Byte) (log : List BusItem) : Prop :=
  s.ifg.rxFull = false ∧ s.ctl.txstp = false ∧ s.ctl.tr = true ∧
  ((s.ctl.txstt = true ∧ s.bus = .busIdle ∧ s.ifg.txEmpty = false ∧ s.txbufFull = false ∧
      s.txRemaining = 1 ∧ s.txLog = log) ∨
   (s.ctl.txstt = false ∧ s.bus = .txActive ∧ s.ifg.txEmpty = true ∧ s.txbufFull = false ∧
      ((s.txRemaining = 1 ∧ s.txLog = log ++ [BusItem.startW]) ∨
       (s.txRemaining = 0 ∧ s.txLog = log ++ [BusItem.startW, BusItem.byte a]))) ∨
   (s.ctl.txstt = false ∧ s.bus = .txActive ∧ s.ifg.txEmpty = false ∧ s.txbufFull = true ∧
      s.txRemaining = 0 ∧ s.txbuf = a ∧ s.txLog = log ++ [BusItem.startW]))

/-- The register address has been clocked onto the bus and the stop of phase 1 has been issued; it may have completed. -/
def State.setupSent (s : State) (a : Byte) (log : List BusItem) : Prop :=
  s.txRemaining = 0 ∧ s.ctl.tr = false ∧ s.quiet ∧
  ((s.bus = .txActive ∧ s.ctl.txstp = true ∧ s.txLog = log ++ [BusItem.startW, BusItem.byte a]) ∨
   (s.bus = .busIdle ∧ s.ctl.txstp = false ∧ s.txLog = log ++ [BusItem.startW, BusItem.byte a, BusItem.stop]))

/-- Phase 2 of a `READ` on a bus whose log was `log`, of a slave that had the bytes `src` to supply: what has arrived is
in the cells in order, what is left is in `RXBUF` and `rx_src` (R43, R102, R141). -/
def State.readReceiving (s : State) (log : List BusItem) (src : List Byte) : Prop :=
  s.ifg.txEmpty = false ∧ s.txbufFull = false ∧ s.ctl.tr = false ∧ s.txRemaining = 0 ∧
  ((s.ctl.txstt = true ∧ s.bus = .busIdle ∧ s.ctl.txstp = false ∧ s.ifg.rxFull = false ∧
      s.rxRemaining = 3 ∧ s.rxCursor = 0 ∧ s.txLog = log ∧ src = s.rxSrc) ∨
   (s.ctl.txstt = false ∧ s.bus = .rxActive ∧ s.ctl.txstp = false ∧ s.rxRemaining = 3 ∧ s.rxCursor = 0 ∧
      s.txLog = log ++ [BusItem.startR] ∧
      ((s.ifg.rxFull = false ∧ src = s.rxSrc) ∨ (s.ifg.rxFull = true ∧ src = s.rxbuf :: s.rxSrc))) ∨
   (s.ctl.txstt = false ∧ s.bus = .rxActive ∧ s.ctl.txstp = false ∧ s.rxRemaining = 2 ∧ s.rxCursor = 1 ∧
      s.txLog = log ++ [BusItem.startR] ∧
      ((s.ifg.rxFull = false ∧ src = s.cell 0 :: s.rxSrc) ∨
       (s.ifg.rxFull = true ∧ src = s.cell 0 :: s.rxbuf :: s.rxSrc))) ∨
   (s.ctl.txstt = false ∧ s.bus = .rxActive ∧ s.ctl.txstp = true ∧ s.ifg.rxFull = false ∧
      s.rxRemaining = 1 ∧ s.rxCursor = 2 ∧ s.txLog = log ++ [BusItem.startR] ∧ src = s.cell 0 :: s.cell 1 :: s.rxSrc) ∨
   (s.ctl.txstt = false ∧ s.bus = .rxStopping ∧ s.ctl.txstp = true ∧ s.ifg.rxFull = true ∧
      s.rxRemaining = 1 ∧ s.rxCursor = 2 ∧ s.txLog = log ++ [BusItem.startR] ∧
      src = s.cell 0 :: s.cell 1 :: s.rxbuf :: s.rxSrc) ∨
   (s.ctl.txstt = false ∧ s.bus = .busIdle ∧ s.ctl.txstp = false ∧ s.ifg.rxFull = true ∧
      s.rxRemaining = 1 ∧ s.rxCursor = 2 ∧ s.txLog = log ++ [BusItem.startR, BusItem.stop] ∧
      src = s.cell 0 :: s.cell 1 :: s.rxbuf :: s.rxSrc))

/-- The three bytes of a `READ` are in the receive destination in arrival order, its stop has been issued and may have
completed (R130). -/
def State.readReceived (s : State) (log : List BusItem) (src : List Byte) : Prop :=
  s.rxRemaining = 0 ∧ s.rxCursor = 2 ∧ s.txRemaining = 0 ∧ s.ctl.tr = false ∧ s.quiet ∧
  src = s.cell 0 :: s.cell 1 :: s.cell 2 :: s.rxSrc ∧
  ((s.bus = .rxStopping ∧ s.ctl.txstp = true ∧ s.txLog = log ++ [BusItem.startR]) ∨
   (s.bus = .busIdle ∧ s.ctl.txstp = false ∧ s.txLog = log ++ [BusItem.startR, BusItem.stop]))

/-- The block is executing `READ a`, accepted when the log was to settle to `log`, the slave had the bytes `src` to
supply, `wake_count` was `w` and the response port had carried `rs`. -/
def State.readCall (s : State) (a : Byte) (log : List BusItem) (src : List Byte) (w : Nat) (rs : List Response) : Prop :=
  s.par.nackPolicy = .ignore ∧ s.ivConsistent = true ∧ s.direction = .read ∧ s.dataByte = a ∧
  s.responses = rs ∧ Memory.wf s.rxBuf = true ∧
  ((s.fg = Fg.r1Poll ∧ s.lpm = false ∧ s.wakeCount = w ∧ s.rxCursor = 0 ∧ s.rxSrc = src ∧ s.txRemaining = 1 ∧
      s.logSettles log) ∨
   (s.fg = Fg.r1Arm ∧ s.lpm = false ∧ s.wakeCount = w ∧ s.rxCursor = 0 ∧ s.rxSrc = src ∧ s.txRemaining = 1 ∧
      s.free ∧ s.txLog = log) ∨
   (s.fg = Fg.r1Sleep ∧ s.lpm = false ∧ s.wakeCount = w ∧ s.rxCursor = 0 ∧ s.rxSrc = src ∧
      (s.setupSending a log ∨ s.setupSent a log)) ∨
   (s.fg = Fg.r1Settle ∧ s.lpm = true ∧ s.wakeCount = w ∧ s.rxCursor = 0 ∧ s.rxSrc = src ∧
      (s.setupSending a log ∨ s.setupSent a log)) ∨
   (s.fg = Fg.r1Settle ∧ s.lpm = false ∧ s.wakeCount = w + 1 ∧ s.rxCursor = 0 ∧ s.rxSrc = src ∧
      s.setupSent a log) ∨
   (s.fg = Fg.r2Init ∧ s.lpm = false ∧ s.wakeCount = w + 1 ∧ s.rxCursor = 0 ∧ s.rxSrc = src ∧ s.setupSent a log) ∨
   (s.fg = Fg.r2Poll ∧ s.lpm = false ∧ s.wakeCount = w + 1 ∧ s.rxCursor = 0 ∧ s.rxSrc = src ∧
      s.rxRemaining = 3 ∧ s.setupSent a log) ∨
   (s.fg = Fg.r2Arm ∧ s.lpm = false ∧ s.wakeCount = w + 1 ∧ s.rxCursor = 0 ∧ s.rxSrc = src ∧
      s.rxRemaining = 3 ∧ s.ctl.txstp = false ∧ s.setupSent a log) ∨
   (s.fg = Fg.r2Sleep ∧ s.lpm = false ∧ s.wakeCount = w + 1 ∧
      (s.readReceiving (log ++ [BusItem.startW, BusItem.byte a, BusItem.stop]) src ∨
       s.readReceived (log ++ [BusItem.startW, BusItem.byte a, BusItem.stop]) src)) ∨
   (s.fg = Fg.r2Settle ∧ s.lpm = true ∧ s.wakeCount = w + 1 ∧
      (s.readReceiving (log ++ [BusItem.startW, BusItem.byte a, BusItem.stop]) src ∨
       s.readReceived (log ++ [BusItem.startW, BusItem.byte a, BusItem.stop]) src)) ∨
   (s.fg = Fg.r2Settle ∧ s.lpm = false ∧ s.wakeCount = w + 2 ∧
      s.readReceived (log ++ [BusItem.startW, BusItem.byte a, BusItem.stop]) src))

/-- `READ a` has returned with the guarantees of R130: the response is the first three of the bytes `src`. -/
def State.readReturned (s : State) (a : Byte) (log : List BusItem) (src : List Byte) (w : Nat) (rs : List Response) :
    Prop :=
  s.fg = Fg.idle ∧ s.lpm = false ∧ s.wakeCount = w + 2 ∧
  (∃ b0 b1 b2, src = b0 :: b1 :: b2 :: s.rxSrc ∧ s.responses = rs ++ [Response.bytes b0 b1 b2 none]) ∧
  s.readReceived (log ++ [BusItem.startW, BusItem.byte a, BusItem.stop]) src

end Sys2Proof.Machine
end

