-- ==== Sys2Proof/Certificates/Slice0/Obligations.lean ====
section
/-! DEFINITION. Certificates/Slice0/Obligations.lean: the statements for the provers. A result statement writes the whole
next state as an update of the old one, so it is the frame of its instruction as well: every field not named keeps its
value. `s.par.nackPolicy = .ignore ∨ s.status = Status.ok` is the condition of R166 under which the data tiers apply. -/

section

open Sys2Proof Sys2Proof.Machine

/-! ### Encoding and selection -/

/-- Words written out from the tables of R61 to R63: the examples of R80 and R81, the event codes, some positions. -/
def Obligations.DecodeWords : Prop :=
  decodeCommand 0x00603 = .write 0x06 0x03 ∧ decodeCommand 0x0FF00 = .write 0xFF 0x00 ∧
  decodeCommand 0x10500 = .read 0x05 ∧ decodeCommand 0x105FF = .read 0x05 ∧ decodeCommand 0x1FF00 = .read 0xFF ∧
  decodeEvent 0b101 2 3 = .rxCont ∧ decodeEvent 0b110 2 3 = .txAddr ∧ decodeEvent 0b010 0 0 = .evNack ∧
  decodePosition 0b0010 = .wArm ∧ decodePosition 0b1001 = .r2Init ∧ decodePosition 0b1101 = .r2Settle

/-- R61: the command word, its two operations, and that no word is reserved. -/
def Obligations.CommandWordFormat : Prop :=
  (∀ a d : Byte, encode (.write a d) = .command (mkCmd 0 a d) ∧ encode (.read a) = .command (mkCmd 1 a 0x00)) ∧
  (∀ a d : Byte, decodeCommand (mkCmd 0 a d) = .write a d ∧ decodeCommand (mkCmd 1 a d) = .read a) ∧
  (∀ (op : BitVec 1) (a d : Byte), (mkCmd op a d).extractLsb' 16 1 = op ∧ (mkCmd op a d).extractLsb' 8 8 = a ∧
    (mkCmd op a d).extractLsb' 0 8 = d) ∧
  (∀ w : CmdWord, (∃ op a d, w = mkCmd op a d) ∧ (decodeCommand w).wf = true)

/-- R62, R66: the rule that an event code and the counters at entry select. -/
def Obligations.EventSelection : Prop :=
  ∀ tx rx : Counter,
    (2 < rx → decodeEvent 5 tx rx = .rxCont) ∧ (rx = 2 → decodeEvent 5 tx rx = .rxPenult) ∧
    (rx ≤ 1 → decodeEvent 5 tx rx = .rxLast) ∧
    (1 < tx → decodeEvent 6 tx rx = .txAddr) ∧ (tx = 1 → decodeEvent 6 tx rx = .txData) ∧
    (tx = 0 → decodeEvent 6 tx rx = .txDone) ∧
    decodeEvent 1 tx rx = .evArbLost ∧ decodeEvent 2 tx rx = .evNack ∧ decodeEvent 3 tx rx = .evStart ∧
    decodeEvent 4 tx rx = .evStop ∧ decodeEvent 0 tx rx = .evNone ∧ decodeEvent 7 tx rx = .evNoneReserved

/-- R67: what `fg` selects, and that a micro-operation executes only while `lpm = 0`. -/
def Obligations.PositionSelection : Prop :=
  (decodePosition 1 = .wPoll ∧ decodePosition 2 = .wArm ∧ decodePosition 3 = .wSleep ∧ decodePosition 4 = .wSettle ∧
   decodePosition 5 = .r1Poll ∧ decodePosition 6 = .r1Arm ∧ decodePosition 7 = .r1Sleep ∧
   decodePosition 8 = .r1Settle ∧ decodePosition 10 = .r2Poll ∧ decodePosition 11 = .r2Arm ∧
   decodePosition 12 = .r2Sleep ∧ decodePosition 13 = .r2Settle ∧ decodePosition 9 = .r2Init) ∧
  ∀ s : State, s.lpm = true → s.fetchForeground = none

/-- Decoder and encoder agree, both ways: every well-formed operation comes back from its code, at the counters that select
it; and a code comes back from what it decodes to, but for the low byte of a `READ`, which is ignored. -/
def Obligations.DecodeEncodeAgree : Prop :=
  (∀ (i : Instr) (tx rx : Counter), i.wf = true → i.selectedBy tx rx = true → decode (encode i) tx rx = i) ∧
  (∀ (c : Code) (tx rx : Counter), (decode c tx rx).selectedBy tx rx = true) ∧
  (∀ (w : CmdWord) (tx rx : Counter), encode (decode (.command w) tx rx) =
    .command (if cmdOp w = 0 then w else mkCmd 1 (cmdA w) 0)) ∧
  (∀ (iv : EventCode) (tx rx : Counter), encode (decode (.event iv) tx rx) = .event iv) ∧
  (∀ (fg : FgCode) (tx rx : Counter), encode (decode (.position fg) tx rx) = .position fg)

/-! ### The step -/

/-- A step runs the operation that is selected: a micro-operation, a command (taken off the port) or one handler rule. The
turn is drawn first and the status vector is latched at the end (log entries 3 and 5); the history `woken` (log entry 11), the
held return (log entry 16), the
order of the port (log entry 17) and `IDLE` (log entry 27) are the model's choices too. -/
def Obligations.StepRunsTheSelectedOperation : Prop :=
  ∀ s : State, fgReserved s.fg = false → s.statusReserved = false →
    (s.turn.move = .foreground → s.lpm = false → s.fg ≠ Fg.idle → s.returnHeld = false →
      step s = andThen (exec (decodePosition s.fg) s.takeTurn) fun t =>
        .next ((t.noteWake (decodePosition s.fg)).latchIv s.turn.ivPick)) ∧
    (∀ w ws, s.turn.move = .foreground → s.lpm = false → s.fg = Fg.idle → s.ctl.swrst = false → s.cmds = w :: ws →
      step s = andThen (exec (decodeCommand w) { s.takeTurn with cmds := ws }) fun t => .next (t.latchIv s.turn.ivPick)) ∧
    (s.turn.move = .foreground → s.lpm = false → s.fg = Fg.idle → s.ctl.swrst = false → s.cmds = [] →
      step s = andThen (exec .idle s.takeTurn) fun t => .next (t.latchIv s.turn.ivPick)) ∧
    (s.turn.move = .interrupt → s.interruptEnabled = true →
      step s = andThen (exec (decodeEvent s.iv s.txRemaining s.rxRemaining) s.takeTurn) fun t =>
        .next ((t.noteWake (decodeEvent s.iv s.txRemaining s.rxRemaining)).latchIv s.turn.ivPick))

/-- A step that runs no operation: a peripheral step, a word presented at the command port, and the turns of an agent that
has nothing to do. The form of a turn and of a passing one is the model's choice (log entries 3 and 5), and so are the held
return (log entry 16), the append at the end of the port (log entry 17) and that `IDLE` itself changes nothing (log entry 27). -/
def Obligations.StepWithoutOperation : Prop :=
  (∀ s : State, exec .idle s = .next s) ∧
  ∀ s : State, fgReserved s.fg = false → s.statusReserved = false →
    (∀ p, s.turn.move = .peripheral p → step s = .next ((s.takeTurn.periphStep p).latchIv s.turn.ivPick)) ∧
    (∀ w, s.turn.move = .host w →
      step s = .next ({ s.takeTurn with cmds := s.cmds ++ [w] }.latchIv s.turn.ivPick)) ∧
    (s.turn.move = .interrupt → s.interruptEnabled = false → step s = .next (s.takeTurn.latchIv s.turn.ivPick)) ∧
    (s.turn.move = .foreground → s.lpm = true → step s = .next (s.takeTurn.latchIv s.turn.ivPick)) ∧
    (s.turn.move = .foreground → s.fg ≠ Fg.idle → s.returnHeld = true →
      step s = .next (s.takeTurn.latchIv s.turn.ivPick))

/-- R68: the reserved values. That every agent's step faults, whatever `lpm` is, and that the position is named when both
codes are reserved, is the model's reading (log entry 12). -/
def Obligations.ReservedValues : Prop :=
  (∀ (s : State) (tx rx : Counter), exec (decodeEvent 7 tx rx) s = .next s ∧ exec (decodeEvent 0 tx rx) s = .next s) ∧
  (∀ s : State, exec .fgReserved14 s = .fault (.reservedEncoding 14) ∧
    exec .fgReserved15 s = .fault (.reservedEncoding 15)) ∧
  (∀ s : State, s.fg = 14 ∨ s.fg = 15 → step s = .fault (.reservedEncoding s.fg.toNat)) ∧
  (∀ s : State, s.par.nackPolicy = .surface → s.status = 3 → s.fg ≠ 14 → s.fg ≠ 15 →
    step s = .fault (.reservedEncoding 3)) ∧
  ∀ w : CmdWord, (decodeCommand w).wf = true

/-! ### Initialisation -/

/-- R80. -/
def Obligations.CallWriteInitialises : Prop :=
  ∀ (a d : Byte) (s : State),
    decodeCommand (mkCmd 0 a d) = .write a d ∧
    (∀ u, s.fetchForeground = some (.write a d, u) → s.fg = Fg.idle ∧ s.lpm = false) ∧
    (s.par.nackPolicy = .ignore →
      exec (.write a d) s = .next
        { s with direction := .write, txRemaining := 2, addrByte := a, dataByte := d, fg := Fg.wPoll }) ∧
    (s.par.nackPolicy = .surface →
      exec (.write a d) s = .next
        { s with
          direction := .write, txRemaining := 2, addrByte := a, dataByte := d, status := Status.ok, fg := Fg.wPoll })

/-- R81. -/
def Obligations.CallReadInitialises : Prop :=
  ∀ (a d : Byte) (s : State),
    decodeCommand (mkCmd 1 a d) = .read a ∧
    (∀ u, s.fetchForeground = some (.read a, u) → s.fg = Fg.idle ∧ s.lpm = false) ∧
    (s.par.nackPolicy = .ignore →
      exec (.read a) s = .next
        { s with direction := .read, txRemaining := 1, dataByte := a, rxCursor := 0, fg := Fg.r1Poll }) ∧
    (s.par.nackPolicy = .surface →
      exec (.read a) s = .next
        { s with
          direction := .read, txRemaining := 1, dataByte := a, rxCursor := 0, status := Status.ok, fg := Fg.r1Poll })

/-- R82. -/
def Obligations.PhaseTwoInitialises : Prop :=
  decodePosition 9 = .r2Init ∧
  ∀ s : State, (∀ u, s.fetchForeground = some (.r2Init, u) → s.lpm = false) ∧
    exec .r2Init s = .next { s with rxRemaining := 3, fg := Fg.r2Poll }

/-! ### Receive tiers -/

/-- R91. -/
def Obligations.RxContReceives : Prop :=
  (∀ tx rx : Counter, 2 < rx → decodeEvent 5 tx rx = .rxCont) ∧
  ∀ s : State, s.par.nackPolicy = .ignore ∨ s.status = Status.ok →
    (s.rxCursor ≠ 3 → exec .rxCont s = .next
      { s with
        rxRemaining := s.rxRemaining - 1
        ifg := { s.ifg with rxFull := false }
        rxBuf := Memory.write s.rxBuf s.rxCursor.toNat s.rxbuf
        rxCursor := s.rxCursor + 1 }) ∧
    (s.rxCursor = 3 → exec .rxCont s = .fault (.rxOverrun 3))

/-- R92; the tier is selected at `rx_remaining = 2`, so the rule's new value is 1. -/
def Obligations.RxPenultReceivesAndStops : Prop :=
  (∀ tx rx : Counter, rx = 2 → decodeEvent 5 tx rx = .rxPenult) ∧
  ∀ s : State, s.par.nackPolicy = .ignore ∨ s.status = Status.ok → s.rxRemaining = 2 →
    (s.rxCursor ≠ 3 → exec .rxPenult s = .next
      { s with
        rxRemaining := 1
        ifg := { s.ifg with rxFull := false }
        rxBuf := Memory.write s.rxBuf s.rxCursor.toNat s.rxbuf
        rxCursor := s.rxCursor + 1
        ctl := { s.ctl with txstp := true } }) ∧
    (s.rxCursor = 3 → exec .rxPenult s = .fault (.rxOverrun 3))

/-- R93. At entry value 0 the new counter value is a free value, which nothing constrains; that it is drawn at `freeCount`,
which then advances, is the model's choice (log entry 4). -/
def Obligations.RxLastReceivesAndWakes : Prop :=
  (∀ tx rx : Counter, rx ≤ 1 → decodeEvent 5 tx rx = .rxLast) ∧
  ∀ s : State, s.par.nackPolicy = .ignore ∨ s.status = Status.ok →
    (s.rxCursor ≠ 3 → exec .rxLast s = .next
      { s with
        ifg := { s.ifg with rxFull := false }
        rxBuf := Memory.write s.rxBuf s.rxCursor.toNat s.rxbuf
        rxRemaining := if s.rxRemaining = 1 then 0 else Config.freeCounter s.freeCount
        freeCount := if s.rxRemaining = 1 then s.freeCount else s.freeCount + 1
        lpm := false
        wakeCount := if s.lpm then s.wakeCount + 1 else s.wakeCount }) ∧
    (s.rxCursor = 3 → exec .rxLast s = .fault (.rxOverrun 3))

/-- R41, R43: a receive tier that goes on stores the byte of `RXBUF` in the one cell that `rx_cursor` names, or, in an
aborted transaction, in none; every other cell reads as before. The canonical form, which is kept, is the model's choice (log
entry 19). -/
def Obligations.ReceiveStoreFrame : Prop :=
  ∀ (i : Instr) (s t : State), i = .rxCont ∨ i = .rxPenult ∨ i = .rxLast → Memory.wf s.rxBuf = true →
    exec i s = .next t →
    Memory.wf t.rxBuf = true ∧
    (s.aborted = true → ∀ a, t.cell a = s.cell a) ∧
    (s.aborted = false → s.rxCursor.toNat < 3 ∧ t.cell s.rxCursor.toNat = s.rxbuf ∧
      ∀ a, a ≠ s.rxCursor.toNat → t.cell a = s.cell a)

/-! ### Transmit tiers -/

/-- R94, R95; `TX_DATA` is selected at `tx_remaining = 1`, so its decrement leaves 0. -/
def Obligations.TransmitTiersSend : Prop :=
  (∀ tx rx : Counter, (1 < tx → decodeEvent 6 tx rx = .txAddr) ∧ (tx = 1 → decodeEvent 6 tx rx = .txData)) ∧
  ∀ s : State, s.par.nackPolicy = .ignore ∨ s.status = Status.ok →
    exec .txAddr s = .next
      { s with
        txbuf := s.addrByte
        txbufFull := true
        ifg := { s.ifg with txEmpty := false }
        txRemaining := s.txRemaining - 1 } ∧
    exec .txData s = .next
      { s with
        txbuf := s.dataByte
        txbufFull := true
        ifg := { s.ifg with txEmpty := false }
        txRemaining := 0 }

/-- R96. -/
def Obligations.TxDoneStopsAndWakes : Prop :=
  (∀ tx rx : Counter, tx = 0 → decodeEvent 6 tx rx = .txDone) ∧
  ∀ s : State, s.par.nackPolicy = .ignore ∨ s.status = Status.ok →
    exec .txDone s = .next
      { s with
        ctl := { s.ctl with txstp := true, tr := if s.direction = .read then false else s.ctl.tr }
        ifg := { s.ifg with txEmpty := false }
        lpm := false
        wakeCount := if s.lpm then s.wakeCount + 1 else s.wakeCount }

/-! ### Other events, and the error surfacing option -/

/-- R97, R98 (under `Ignore`), R99, R100 (under both policies). -/
def Obligations.OtherEventsAcknowledged : Prop :=
  (∀ tx rx : Counter, decodeEvent 1 tx rx = .evArbLost ∧ decodeEvent 2 tx rx = .evNack ∧
    decodeEvent 3 tx rx = .evStart ∧ decodeEvent 4 tx rx = .evStop) ∧
  ∀ s : State,
    (s.par.nackPolicy = .ignore → exec .evArbLost s = .next { s with ifg := { s.ifg with arbLost := false } }) ∧
    (s.par.nackPolicy = .ignore → exec .evNack s = .next { s with ifg := { s.ifg with nack := false } }) ∧
    exec .evStart s = .next { s with ifg := { s.ifg with start := false } } ∧
    exec .evStop s = .next { s with ifg := { s.ifg with stop := false } }

/-- R101. -/
def Obligations.NoEventNoAction : Prop :=
  (∀ tx rx : Counter, decodeEvent 0 tx rx = .evNone ∧ decodeEvent 7 tx rx = .evNoneReserved) ∧
  ∀ s : State, exec .evNone s = .next s ∧ exec .evNoneReserved s = .next s

/-- R164, R165. -/
def Obligations.SurfaceErrorEvents : Prop :=
  ∀ s : State, s.par.nackPolicy = .surface →
    (s.lpm = true → s.status = Status.ok →
      exec .evNack s = .next
        { s with
          status := Status.nack
          ctl := { s.ctl with txstp := true }
          ifg := { s.ifg with nack := false, txEmpty := false }
          lpm := false
          wakeCount := s.wakeCount + 1 } ∧
      exec .evArbLost s = .next
        { s with
          status := Status.arbLost
          ifg := { s.ifg with arbLost := false }
          lpm := false
          wakeCount := s.wakeCount + 1 }) ∧
    (s.lpm = false ∨ s.status ≠ Status.ok →
      exec .evNack s = .next { s with ifg := { s.ifg with nack := false } } ∧
      exec .evArbLost s = .next { s with ifg := { s.ifg with arbLost := false } })

/-- R166: the guard of an aborted transaction; with `status = Ok` the six tiers do what they do under `Ignore`. -/
def Obligations.AbortedTransactionGuard : Prop :=
  ∀ s : State, s.par.nackPolicy = .surface →
    (s.status ≠ Status.ok →
      (∀ i, i = .rxCont ∨ i = .rxPenult ∨ i = .rxLast →
        exec i s = .next { s with ifg := { s.ifg with rxFull := false } }) ∧
      (∀ i, i = .txAddr ∨ i = .txData ∨ i = .txDone →
        exec i s = .next { s with ifg := { s.ifg with txEmpty := false } })) ∧
    (s.status = Status.ok →
      ∀ i, i = .rxCont ∨ i = .rxPenult ∨ i = .rxLast ∨ i = .txAddr ∨ i = .txData ∨ i = .txDone →
        exec i s = andThen (exec i { s with par := { s.par with nackPolicy := .ignore } }) fun t =>
          .next { t with par := s.par })

/-! ### Foreground micro-operations -/

/-- R111, R121, R126. -/
def Obligations.PollsWaitForStop : Prop :=
  decodePosition 1 = .wPoll ∧ decodePosition 5 = .r1Poll ∧ decodePosition 10 = .r2Poll ∧
  ∀ s : State,
    exec .wPoll s = .next { s with fg := if s.ctl.txstp = true then Fg.wPoll else Fg.wArm } ∧
    exec .r1Poll s = .next { s with fg := if s.ctl.txstp = true then Fg.r1Poll else Fg.r1Arm } ∧
    exec .r2Poll s = .next { s with fg := if s.ctl.txstp = true then Fg.r2Poll else Fg.r2Arm }

/-- R112, R122, R127. -/
def Obligations.ArmsIssueStart : Prop :=
  decodePosition 2 = .wArm ∧ decodePosition 6 = .r1Arm ∧ decodePosition 11 = .r2Arm ∧
  ∀ s : State,
    exec .wArm s = .next { s with ctl := { s.ctl with tr := true, txstt := true }, fg := Fg.wSleep } ∧
    exec .r1Arm s = .next { s with ctl := { s.ctl with tr := true, txstt := true }, fg := Fg.r1Sleep } ∧
    exec .r2Arm s = .next { s with ctl := { s.ctl with txstt := true }, fg := Fg.r2Sleep }

/-- R113, R123, R128. -/
def Obligations.SleepsSuspend : Prop :=
  decodePosition 3 = .wSleep ∧ decodePosition 7 = .r1Sleep ∧ decodePosition 12 = .r2Sleep ∧
  ∀ s : State,
    exec .wSleep s = .next { s with lpm := true, gie := true, fg := Fg.wSettle } ∧
    exec .r1Sleep s = .next { s with lpm := true, gie := true, fg := Fg.r1Settle } ∧
    exec .r2Sleep s = .next { s with lpm := true, gie := true, fg := Fg.r2Settle }

/-- R114, R124, R129, with the response and the abort of R163: the settling delay changes no state. -/
def Obligations.SettlesReturn : Prop :=
  decodePosition 4 = .wSettle ∧ decodePosition 8 = .r1Settle ∧ decodePosition 13 = .r2Settle ∧
  (∀ (s u : State) (i : Instr), i = .wSettle ∨ i = .r1Settle ∨ i = .r2Settle →
    s.fetchForeground = some (i, u) → s.lpm = false) ∧
  ∀ (s : State) (st : Option StatusCode),
    (s.par.nackPolicy = .ignore ∧ st = none) ∨ (s.par.nackPolicy = .surface ∧ st = some s.status) →
    exec .wSettle s = .next { s with responses := s.responses ++ [Response.written st], fg := Fg.idle } ∧
    exec .r2Settle s = .next
      { s with responses := s.responses ++ [Response.bytes (s.cell 0) (s.cell 1) (s.cell 2) st], fg := Fg.idle } ∧
    (s.par.nackPolicy = .ignore ∨ s.status = Status.ok → exec .r1Settle s = .next { s with fg := Fg.r2Init }) ∧
    (s.par.nackPolicy = .surface → s.status ≠ Status.ok → exec .r1Settle s = .next
      { s with responses := s.responses ++ [Response.bytes (s.cell 0) (s.cell 1) (s.cell 2) st], fg := Fg.idle })

/-- R72, R110, R120, R163: the order of the foreground's positions, over every step of every agent. -/
def Obligations.ForegroundOrder : Prop :=
  ∀ s t : State, step s = .next t →
    (s.turn.move ≠ .foreground → t.fg = s.fg) ∧
    (t.fg ≠ s.fg → s.turn.move = .foreground ∧ s.lpm = false ∧
      ((s.fg = Fg.idle ∧ ((t.fg = Fg.wPoll ∧ ∃ a d, s.accepts (.write a d)) ∨
         (t.fg = Fg.r1Poll ∧ ∃ a, s.accepts (.read a)))) ∨
       (s.fg = Fg.wPoll ∧ t.fg = Fg.wArm ∧ s.ctl.txstp = false) ∨ (s.fg = Fg.wArm ∧ t.fg = Fg.wSleep) ∨
       (s.fg = Fg.wSleep ∧ t.fg = Fg.wSettle) ∨ (s.fg = Fg.wSettle ∧ t.fg = Fg.idle) ∨
       (s.fg = Fg.r1Poll ∧ t.fg = Fg.r1Arm ∧ s.ctl.txstp = false) ∨ (s.fg = Fg.r1Arm ∧ t.fg = Fg.r1Sleep) ∨
       (s.fg = Fg.r1Sleep ∧ t.fg = Fg.r1Settle) ∨
       (s.fg = Fg.r1Settle ∧ ((s.aborted = false ∧ t.fg = Fg.r2Init) ∨ (s.aborted = true ∧ t.fg = Fg.idle))) ∨
       (s.fg = Fg.r2Init ∧ t.fg = Fg.r2Poll) ∨ (s.fg = Fg.r2Poll ∧ t.fg = Fg.r2Arm ∧ s.ctl.txstp = false) ∨
       (s.fg = Fg.r2Arm ∧ t.fg = Fg.r2Sleep) ∨ (s.fg = Fg.r2Sleep ∧ t.fg = Fg.r2Settle) ∨
       (s.fg = Fg.r2Settle ∧ t.fg = Fg.idle)))

/-! ### The handler and its context -/

/-- R104: every event at every counter value has one transition, and the only stop is the overrun of R41. -/
def Obligations.EveryEventHasATransition : Prop :=
  ∀ s : State,
    (∃ t, exec (decodeEvent s.iv s.txRemaining s.rxRemaining) s = .next t) ∨
    (exec (decodeEvent s.iv s.txRemaining s.rxRemaining) s = .fault (.rxOverrun s.rxCursor) ∧ s.rxCursor = 3 ∧
      s.iv = Ev.rxFull ∧ s.aborted = false)

/-- R174: what a handler invocation may write. -/
def Obligations.HandlerFrame : Prop :=
  ∀ s t : State, s.turn.move = .interrupt → step s = .next t →
    t.fg = s.fg ∧ t.gie = s.gie ∧ t.direction = s.direction ∧ t.addrByte = s.addrByte ∧ t.dataByte = s.dataByte ∧
    t.ie = s.ie ∧ t.br = s.br ∧ t.sa = s.sa ∧ t.clkSrc = s.clkSrc ∧ t.rxbuf = s.rxbuf ∧ t.bus = s.bus ∧
    t.rxSrc = s.rxSrc ∧ t.txLog = s.txLog ∧ t.cmds = s.cmds ∧ t.responses = s.responses ∧
    t.ctl.swrst = s.ctl.swrst ∧ t.ctl.mst = s.ctl.mst ∧ t.ctl.mode = s.ctl.mode ∧ t.ctl.sync = s.ctl.sync ∧
    t.ctl.txstt = s.ctl.txstt ∧ (t.ctl.tr = true → s.ctl.tr = true) ∧ (s.ctl.txstp = true → t.ctl.txstp = true) ∧
    (t.lpm = true → s.lpm = true) ∧ ∀ c, t.ifg.has c = true → s.ifg.has c = true

/-- R174: what a step of the configured foreground may write. -/
def Obligations.ForegroundFrame : Prop :=
  ∀ s t : State, s.turn.move = .foreground → s.ctl.swrst = false → step s = .next t →
    t.txbuf = s.txbuf ∧ t.txbufFull = s.txbufFull ∧ t.rxbuf = s.rxbuf ∧ t.rxBuf = s.rxBuf ∧ t.ifg = s.ifg ∧
    t.ie = s.ie ∧ t.br = s.br ∧ t.sa = s.sa ∧ t.clkSrc = s.clkSrc ∧ t.bus = s.bus ∧ t.rxSrc = s.rxSrc ∧
    t.txLog = s.txLog ∧ t.wakeCount = s.wakeCount ∧ t.ctl.swrst = s.ctl.swrst ∧ t.ctl.mst = s.ctl.mst ∧
    t.ctl.mode = s.ctl.mode ∧ t.ctl.sync = s.ctl.sync ∧ t.ctl.txstp = s.ctl.txstp ∧
    (s.ctl.tr = true → t.ctl.tr = true) ∧ (s.ctl.txstt = true → t.ctl.txstt = true) ∧
    (s.lpm = true → t.lpm = true) ∧ (s.gie = true → t.gie = true)

/-- R10 to R16, R18, R19, R51: who writes each field of TransactionState, and to what. -/
def Obligations.TransactionStateWriters : Prop :=
  ∀ s t : State, step s = .next t →
    (t.direction = s.direction ∨ (t.direction = .write ∧ ∃ a d, s.accepts (.write a d)) ∨
      (t.direction = .read ∧ ∃ a, s.accepts (.read a))) ∧
    (t.txRemaining = s.txRemaining ∨ (t.txRemaining = 2 ∧ ∃ a d, s.accepts (.write a d)) ∨
      (t.txRemaining = 1 ∧ ∃ a, s.accepts (.read a)) ∨
      (s.turn.move = .interrupt ∧ s.iv = Ev.txEmpty ∧ s.txRemaining ≠ 0 ∧ t.txRemaining = s.txRemaining - 1)) ∧
    (t.rxRemaining = s.rxRemaining ∨ (t.rxRemaining = 3 ∧ s.turn.move = .foreground ∧ s.fg = Fg.r2Init) ∨
      (s.turn.move = .interrupt ∧ s.iv = Ev.rxFull ∧ (s.rxRemaining ≠ 0 → t.rxRemaining = s.rxRemaining - 1))) ∧
    (t.addrByte = s.addrByte ∨ ∃ a d, s.accepts (.write a d) ∧ t.addrByte = a) ∧
    (t.dataByte = s.dataByte ∨ (∃ a d, s.accepts (.write a d) ∧ t.dataByte = d) ∨
      ∃ a, s.accepts (.read a) ∧ t.dataByte = a) ∧
    (t.rxCursor = s.rxCursor ∨ (t.rxCursor = 0 ∧ ∃ a, s.accepts (.read a)) ∨
      (s.turn.move = .interrupt ∧ s.iv = Ev.rxFull ∧ 2 ≤ s.rxRemaining ∧ s.rxCursor ≠ 3 ∧
        t.rxCursor = s.rxCursor + 1)) ∧
    (t.rxBuf = s.rxBuf ∨
      (s.turn.move = .interrupt ∧ s.iv = Ev.rxFull ∧ s.rxCursor ≠ 3 ∧
        t.rxBuf = Memory.write s.rxBuf s.rxCursor.toNat s.rxbuf))

/-- R84: once a transaction has been armed, and as long as the foreground stands before its `*_SLEEP`, only the handler
writes the counters and the cursor; `*_SLEEP` and `*_SETTLE` write nothing of TransactionState. -/
def Obligations.MutationDiscipline : Prop :=
  (∀ s t : State, s.armed = true ∨ s.inArmWindow = true → step s = .next t → s.turn.move ≠ .interrupt →
    t.txRemaining = s.txRemaining ∧ t.rxRemaining = s.rxRemaining ∧ t.rxCursor = s.rxCursor) ∧
  ∀ (i : Instr) (s t : State),
    i = .wSleep ∨ i = .r1Sleep ∨ i = .r2Sleep ∨ i = .wSettle ∨ i = .r1Settle ∨ i = .r2Settle →
    exec i s = .next t → s.sameTransaction t

/-- R23, R35, R172, R175: `lpm` is set by `*_SLEEP` and by nothing else, and cleared by `wake()` in a completing handler rule and
by nothing else; `wake_count` counts the latter; and while it is set the foreground takes no step: what its turn then
leaves is the model's choice of a passing turn (log entries 3 and 5). -/
def Obligations.WaitFlagRule : Prop :=
  ∀ s t : State, step s = .next t →
    (s.lpm = false → t.lpm = true →
      s.turn.move = .foreground ∧ (s.fg = Fg.wSleep ∨ s.fg = Fg.r1Sleep ∨ s.fg = Fg.r2Sleep) ∧ t.gie = true) ∧
    (s.lpm = true → t.lpm = false →
      s.turn.move = .interrupt ∧
      (decodeEvent s.iv s.txRemaining s.rxRemaining = .rxLast ∨
       decodeEvent s.iv s.txRemaining s.rxRemaining = .txDone ∨
       (s.par.nackPolicy = .surface ∧ s.status = Status.ok ∧ (s.iv = Ev.nack ∨ s.iv = Ev.arbLost)))) ∧
    t.wakeCount = (if s.lpm = true ∧ t.lpm = false then s.wakeCount + 1 else s.wakeCount) ∧
    (s.lpm = true → s.turn.move = .foreground → t = s.takeTurn.latchIv s.turn.ivPick)

/-- R24, R169: `gie` is set with `lpm` by `*_SLEEP` and cleared by nothing; while it is 0 no handler rule runs: what the
handler's turn then leaves is the model's choice of a passing turn (log entries 3 and 5). -/
def Obligations.InterruptEnableRule : Prop :=
  ∀ s t : State, step s = .next t →
    (s.gie = true → t.gie = true) ∧
    (s.gie = false → t.gie = true →
      t.lpm = true ∧ s.turn.move = .foreground ∧ (s.fg = Fg.wSleep ∨ s.fg = Fg.r1Sleep ∨ s.fg = Fg.r2Sleep)) ∧
    (s.turn.move = .foreground → s.lpm = false → s.fg = Fg.wSleep ∨ s.fg = Fg.r1Sleep ∨ s.fg = Fg.r2Sleep →
      t.lpm = true ∧ t.gie = true) ∧
    (s.gie = false → s.turn.move = .interrupt → t = s.takeTurn.latchIv s.turn.ivPick)

/-- R169: exactly when an invocation is enabled; with `A_NO_EARLY_EVENT`, no data event between `*_ARM` and `*_SLEEP`. R169
states the assumption as a limit on order; that it disables the invocation while `fg` is at a `*_SLEEP` position and the latched
`IV` reports a data event is the model's reading (log entries 5 and 15). -/
def Obligations.InvocationEnabled : Prop :=
  ∀ s : State,
    (s.par.noEarlyEvent = false →
      (s.interruptEnabled = true ↔ s.gie = true ∧ ∃ c, s.ifg.has c = true ∧ s.ie.has c = true)) ∧
    (s.par.noEarlyEvent = true →
      (s.interruptEnabled = true ↔ s.gie = true ∧ (∃ c, s.ifg.has c = true ∧ s.ie.has c = true) ∧
        ¬((s.fg = Fg.wSleep ∨ s.fg = Fg.r1Sleep ∨ s.fg = Fg.r2Sleep) ∧ (s.iv = Ev.rxFull ∨ s.iv = Ev.txEmpty))))

/-- R33, R170: after every step the status vector names a cause that is pending and enabled, or 0 when there is none; and
every such cause may be the one it names. -/
def Obligations.StatusVectorRule : Prop :=
  (∀ s t : State, step s = .next t →
    (t.ifg.has t.iv = true ∧ t.ie.has t.iv = true) ∨ (t.iv = 0 ∧ ∀ c, ¬(t.ifg.has c = true ∧ t.ie.has c = true))) ∧
  ∀ (s : State) (c : EventCode), s.ifg.has c = true → s.ie.has c = true → ∃ n, (s.latchIv n).iv = c

/-- R168: flags are set by the peripheral only, and the flag of the handled cause is 0 when its invocation ends. -/
def Obligations.HandledCauseCleared : Prop :=
  ∀ s t : State, step s = .next t →
    (∀ c, t.ifg.has c = true → s.ifg.has c = true ∨ ∃ p, s.turn.move = .peripheral p) ∧
    (s.turn.move = .interrupt → s.interruptEnabled = true → t.ifg.has s.iv = false)

/-- R38: the command port and the response port, over every step. That words wait in the order presented, the first being
accepted (log entry 17), and that the response port is a history (log entry 7) are the model's choices. -/
def Obligations.HostPorts : Prop :=
  (∀ s : State, s.cmdReady = true ↔ s.fg = Fg.idle) ∧
  ∀ s t : State, step s = .next t →
    (t.cmds = s.cmds ∨ (∃ w, s.turn.move = .host w ∧ t.cmds = s.cmds ++ [w]) ∨
      (s.cmdReady = true ∧ ∃ w ws, s.cmds = w :: ws ∧ t.cmds = ws ∧ s.accepts (decodeCommand w))) ∧
    ((s.fg ≠ Fg.idle ∧ t.fg = Fg.idle) ↔ t.responses ≠ s.responses) ∧
    (t.responses = s.responses ∨
      ∃ st, ((s.par.nackPolicy = .ignore ∧ st = none) ∨ (s.par.nackPolicy = .surface ∧ st = some s.status)) ∧
        ((s.fg = Fg.wSettle ∧ t.responses = s.responses ++ [Response.written st]) ∨
         ((s.fg = Fg.r1Settle ∨ s.fg = Fg.r2Settle) ∧
          t.responses = s.responses ++ [Response.bytes (s.cell 0) (s.cell 1) (s.cell 2) st])))

/-! ### The reference peripheral -/

/-- R138, R139, R140: start, transmit, and the stop after a transmit, when they are enabled; else nothing happens. -/
def Obligations.PeripheralTransmitSteps : Prop :=
  ∀ s : State, s.ctl.swrst = false →
    (s.ctl.txstt = true → s.ctl.txstp = false → s.bus = .busIdle →
      s.periphStep .start =
        if s.ctl.tr = true then
          { s with
            txLog := s.txLog ++ [BusItem.startW]
            bus := .txActive
            ifg := { s.ifg with txEmpty := true }
            ctl := { s.ctl with txstt := false } }
        else
          { s with
            txLog := s.txLog ++ [BusItem.startR]
            bus := .rxActive
            ctl := { s.ctl with txstt := false } }) ∧
    (s.ctl.txstt = false ∨ s.ctl.txstp = true ∨ s.bus ≠ .busIdle → s.periphStep .start = s) ∧
    (s.bus = .txActive → s.txbufFull = true →
      s.periphStep .txTake =
        { s with
          txLog := s.txLog ++ [BusItem.byte s.txbuf]
          txbufFull := false
          ifg := { s.ifg with txEmpty := true } }) ∧
    (s.bus ≠ .txActive ∨ s.txbufFull = false → s.periphStep .txTake = s) ∧
    (s.bus = .txActive → s.ctl.txstp = true → s.txbufFull = false →
      s.periphStep .txStop =
        { s with txLog := s.txLog ++ [BusItem.stop], ctl := { s.ctl with txstp := false }, bus := .busIdle }) ∧
    (s.bus ≠ .txActive ∨ s.ctl.txstp = false ∨ s.txbufFull = true → s.periphStep .txStop = s)

/-- R141, R142, R143: a received byte, the stop after a receive, and an "other" event, when they are enabled; else nothing
happens. -/
def Obligations.PeripheralReceiveSteps : Prop :=
  ∀ s : State, s.ctl.swrst = false →
    (∀ v rest, s.bus = .rxActive → s.ifg.rxFull = false → s.rxSrc = v :: rest →
      s.periphStep .rxByte =
        { s with
          rxbuf := v
          rxSrc := rest
          ifg := { s.ifg with rxFull := true }
          bus := if s.ctl.txstp = true then .rxStopping else .rxActive }) ∧
    (s.bus ≠ .rxActive ∨ s.ifg.rxFull = true ∨ s.rxSrc = [] → s.periphStep .rxByte = s) ∧
    (s.bus = .rxStopping →
      s.periphStep .rxStop =
        { s with txLog := s.txLog ++ [BusItem.stop], ctl := { s.ctl with txstp := false }, bus := .busIdle }) ∧
    (s.bus ≠ .rxStopping → s.periphStep .rxStop = s) ∧
    s.periphStep (.other .arbLost) = { s with ifg := { s.ifg with arbLost := true } } ∧
    s.periphStep (.other .nack) = { s with ifg := { s.ifg with nack := true } } ∧
    s.periphStep (.other .start) = { s with ifg := { s.ifg with start := true } } ∧
    s.periphStep (.other .stop) = { s with ifg := { s.ifg with stop := true } } ∧
    (∀ e p, (s.periphStep (.other e)).periphEnabled p = s.periphEnabled p) ∧
    ∀ e, (s.periphStep (.other e)).pending.other e = s.ie.other e

/-- R145, R137: who raises a data event and while the bus is in which phase; and a peripheral in reset does nothing. -/
def Obligations.PeripheralDuties : Prop :=
  (∀ s t : State, step s = .next t →
    (s.ifg.txEmpty = false → t.ifg.txEmpty = true →
      (s.turn.move = .peripheral .start ∨ s.turn.move = .peripheral .txTake) ∧ t.bus = .txActive) ∧
    (s.ifg.rxFull = false → t.ifg.rxFull = true → s.turn.move = .peripheral .rxByte ∧ s.bus = .rxActive)) ∧
  (∀ (s : State) (p : PeriphStep), s.ctl.swrst = true → s.periphStep p = s) ∧
  ∀ s : State,
    (s.ctl.txstt = true → s.ctl.txstp = true ∨ s.bus ≠ .busIdle → s.periphStep .start = s) ∧
    (s.ctl.txstp = true → s.bus = .busIdle → s.periphStep .txStop = s ∧ s.periphStep .rxStop = s) ∧
    (s.txbufFull = true → s.bus ≠ .txActive → s.periphStep .txTake = s)

/-! ### Reset, boot, constants -/

/-- R36: the reset values that the spec gives (those of log entry 1 are the model's own and are not stated). -/
def Obligations.ResetValues : Prop :=
  ∀ (p : Params) (src : List Byte),
    State.reset = State.resetWith Params.asBuilt Config.rxSrc ∧
    (State.resetWith p src).fg = Fg.idle ∧ (State.resetWith p src).lpm = false ∧
    (State.resetWith p src).gie = false ∧ (State.resetWith p src).status = Status.ok ∧
    (State.resetWith p src).ctl.swrst = true ∧ (State.resetWith p src).ctl.tr = false ∧
    (State.resetWith p src).ctl.txstt = false ∧ (State.resetWith p src).ctl.txstp = false ∧
    (∀ c, (State.resetWith p src).ie.has c = false ∧ (State.resetWith p src).ifg.has c = false) ∧
    (State.resetWith p src).iv = Ev.none ∧ (State.resetWith p src).txbufFull = false ∧
    (State.resetWith p src).bus = .busIdle ∧ (State.resetWith p src).txLog = [] ∧
    (State.resetWith p src).wakeCount = 0 ∧ (State.resetWith p src).rxSrc = src

/-- The invariants of this file hold in the state after reset, for every choice of the open parameters. The reset value of
`rx_buf`, which the spec leaves unspecified (log entry 1), and its canonical form (log entry 19) are the model's choices. -/
def Obligations.ResetInvariants : Prop :=
  ∀ (p : Params) (src : List Byte),
    Memory.wf (State.resetWith p src).rxBuf = true ∧
    (State.resetWith p src).fg.toNat < 14 ∧ (State.resetWith p src).status ≠ 3 ∧
    (p.nackPolicy = .ignore → (State.resetWith p src).protocol) ∧
    State.reset.protocol

/-- R192: `CONFIG`, as one step of the foreground (log entry 8): the peripheral is configured, released, and its interrupts
are enabled; nothing else but the turn and the status vector changes. -/
def Obligations.ConfigStep : Prop :=
  ∀ s : State, s.ctl.swrst = true → s.fg = Fg.idle → s.lpm = false → s.statusReserved = false →
    s.turn.move = .foreground →
    step s = .next
      ({ s.takeTurn with
          ctl := { s.ctl with swrst := false, mst := true, mode := .i2c, sync := true }
          clkSrc := s.par.clkSel
          br := s.par.br
          sa := s.par.sa
          ie :=
            { rxFull := true
              txEmpty := true
              arbLost := s.par.ieOther.arbLost
              nack := s.par.ieOther.nack
              start := s.par.ieOther.start
              stop := s.par.ieOther.stop } }.latchIv s.turn.ivPick)

/-- R193: what holds before the first command, once `CONFIG` has run after reset. That `CONFIG` is one foreground step is the
model's choice (log entry 8). -/
def Obligations.ReadyAfterConfig : Prop :=
  ∀ (p : Params) (src : List Byte) (n : Nat) (ts : List Turn),
    ∃ t, step { State.resetWith p src with sched := ⟨.foreground, n⟩ :: ts } = .next t ∧ t.readyForCommands

/-- R21, R26, R27, R28, R31, R192: the parameters are constant, and what `CONFIG` writes is written by it alone, in the step
that ends the reset and in no other, before it or after it; the reset is never entered again, and no command is accepted before. That the enables, which R192
writes after the release, are written in the step that ends the reset is the model's choice of one step (log entry 8). -/
def Obligations.ConfigurationWrittenOnce : Prop :=
  ∀ s t : State, step s = .next t →
    t.par = s.par ∧
    (s.ctl.swrst = false → t.ctl.swrst = false ∧ t.ctl.mst = s.ctl.mst ∧ t.ctl.mode = s.ctl.mode ∧
      t.ctl.sync = s.ctl.sync ∧ t.clkSrc = s.clkSrc ∧ t.br = s.br ∧ t.sa = s.sa ∧ t.ie = s.ie) ∧
    (s.ctl.swrst = true → (t.cmds = s.cmds ∨ ∃ w, t.cmds = s.cmds ++ [w]) ∧
      (t.ctl.swrst = false → s.fg = Fg.idle ∧ s.lpm = false ∧ s.turn.move = .foreground) ∧
      (t.ctl.swrst = true → t.ctl.mst = s.ctl.mst ∧ t.ctl.mode = s.ctl.mode ∧ t.ctl.sync = s.ctl.sync ∧
        t.clkSrc = s.clkSrc ∧ t.br = s.br ∧ t.sa = s.sa ∧ t.ie = s.ie))

/-! ### Invariants -/

/-- The receive destination keeps its canonical form. R40 and R41 give the bound below 3; the form is the model's choice
(log entry 19). -/
def Obligations.MemoryFormKept : Prop :=
  ∀ s t : State, Memory.wf s.rxBuf = true → step s = .next t → Memory.wf t.rxBuf = true

/-- R180: no step, under either policy, leads to a reserved code, and none of them is refused. -/
def Obligations.NoReservedCodeReached : Prop :=
  ∀ s : State, s.fg.toNat < 14 → s.status ≠ 3 →
    (∃ t, step s = .next t ∧ t.fg.toNat < 14 ∧ t.status ≠ 3) ∨
    (step s = .fault (.rxOverrun s.rxCursor) ∧ s.rxCursor = 3 ∧ s.turn.move = .interrupt)

/-- R17 to R19, R41, R102, R103, R180 under `Ignore`: from every state in which foreground and transaction are in step, the
machine goes on (no store overruns, no code is reserved), whoever moves, and they stay in step. -/
def Obligations.ProtocolKept : Prop :=
  ∀ s : State, s.protocol → ∃ t, step s = .next t ∧ t.protocol

/-- R17: a start is requested only while no stop is pending and no transaction is on the bus. -/
def Obligations.ArmOnlyOnFreeBus : Prop :=
  ∀ s t : State, s.protocol → step s = .next t → s.ctl.txstt = false → t.ctl.txstt = true →
    s.ctl.txstp = false ∧ s.bus = .busIdle ∧ s.ifg.rxFull = false ∧ s.ifg.txEmpty = false ∧ s.txbufFull = false

/-- R169, R197: under `A_NO_EARLY_EVENT` the transaction that a `*_ARM` has armed is still running at its `*_SLEEP`, so the
wake-up cannot be lost. -/
def Obligations.NoLostWakeUpUnderAssumption : Prop :=
  ∀ s : State, s.protocol → s.par.noEarlyEvent = true →
    (s.inArmWindow = true → s.transmitting ∨ s.receiving) →
    ∃ t, step s = .next t ∧ t.protocol ∧ (t.inArmWindow = true → t.transmitting ∨ t.receiving)

/-- R37, R52, R197: without `A_NO_EARLY_EVENT` the wake-up can be lost. The completing event of the armed transaction is
handled before its `*_SLEEP`, and its `wake()` leaves nothing behind; the stop completes; and with no cause pending the
foreground goes to sleep with nothing left to wake it. How `armed` is known before the `*_SLEEP` is the model's reading (log
entry 11), and so is that `P_OTHER`, which stays enabled, does not count as a step that will wake it (log entry 29). -/
def Obligations.LostWakeUp : Prop :=
  (∀ s : State, s.protocol → s.par.noEarlyEvent = false → s.inArmWindow = true → s.armed = true → s.gie = true →
    s.turn.move = .interrupt → (s.iv = Ev.txEmpty ∧ s.txRemaining = 0) ∨ (s.iv = Ev.rxFull ∧ s.rxRemaining = 1) →
    ∃ t, step s = .next t ∧ t.protocol ∧ t.fg = s.fg ∧ t.released ∧ t.lpm = false ∧
      t.wakeCount = s.wakeCount ∧ t.armed = false) ∧
  (∀ s : State, s.protocol → s.inArmWindow = true → s.releasing → s.ctl.swrst = false →
    (s.bus = .txActive ∧ s.turn.move = .peripheral .txStop) ∨ (s.bus = .rxStopping ∧ s.turn.move = .peripheral .rxStop) →
    ∃ t, step s = .next t ∧ t.protocol ∧ t.fg = s.fg ∧ t.free ∧ t.wakeCount = s.wakeCount) ∧
  (∀ s : State, s.protocol → s.inArmWindow = true → s.free → s.causePending = false → s.turn.move = .foreground →
    ∃ t, step s = .next t ∧ t.hung = true ∧ t.wakeCount = s.wakeCount)

/-- R199: a suspended foreground stays suspended through every step but those of R138 to R142, be one of them enabled or not,
and through those too when none is enabled; and a `*_POLL` repeats through every step but those: there is no timeout. -/
def Obligations.StalledBusHangs : Prop :=
  (∀ s : State, s.par.nackPolicy = .ignore → fgReserved s.fg = false → s.ivConsistent = true → s.lpm = true →
    s.ifg.rxFull = false → s.ifg.txEmpty = false → isBusStep s.turn.move = false ∨ s.periphBusy = false →
    ∃ t, step s = .next t ∧ t.par = s.par ∧ t.fg = s.fg ∧ t.lpm = true ∧ t.wakeCount = s.wakeCount ∧
      t.ivConsistent = true ∧ t.ifg.rxFull = false ∧ t.ifg.txEmpty = false ∧ t.periphBusy = s.periphBusy) ∧
  (∀ s : State, s.polling = true → s.ctl.txstp = true → s.statusReserved = false → s.ivConsistent = true →
    s.ifg.rxFull = false → isBusStep s.turn.move = false →
    ∃ t, step s = .next t ∧ t.fg = s.fg ∧ t.polling = true ∧ t.ctl.txstp = true ∧ t.statusReserved = false ∧
      t.ivConsistent = true ∧ t.ifg.rxFull = false)

/-- R130, R203: under `A_SETTLE_COVERS_STOP`, `Read` returns only when its last stop has completed, from `R2_SETTLE` and,
under `Surface`, from an `R1_SETTLE` of an aborted transaction; while the stop is pending the step leaves the foreground where
it is. The spec gives the assumption no mechanism: that the returning settle is held is the model's reading (log entry 16).
By the protocol, at `R2_SETTLE` under `Ignore` the bus is then released as well. -/
def Obligations.StopCoveredBeforeReturn : Prop :=
  (∀ s t : State, s.par.settleCoversStop = true →
    s.fg = Fg.r2Settle ∨ (s.fg = Fg.r1Settle ∧ s.par.nackPolicy = .surface ∧ s.status ≠ Status.ok) →
    step s = .next t →
    (t.fg = Fg.idle → s.ctl.txstp = false ∧ t.ctl.txstp = false) ∧
    (s.ctl.txstp = true → t.fg = s.fg ∧ t.responses = s.responses)) ∧
  (∀ s t : State, s.protocol → s.par.settleCoversStop = true → s.fg = Fg.r2Settle → step s = .next t →
    (t.fg = Fg.idle → s.ctl.txstp = false ∧ s.bus = .busIdle ∧ t.free) ∧
    (s.ctl.txstp = true → t.fg = Fg.r2Settle ∧ t.responses = s.responses))

/-! ### One call, from acceptance to return -/

/-- R80, R110: an accepted `WRITE a, d` starts a call on the bus whose log is as it is, but for a stop still to complete. -/
def Obligations.WriteAccepted : Prop :=
  ∀ (s : State) (a d : Byte), s.protocol → s.accepts (.write a d) →
    ∃ t, step s = .next t ∧
      t.writeCall a d (if s.ctl.txstp = true then s.txLog ++ [BusItem.stop] else s.txLog) s.wakeCount s.responses

/-- R42, R110, R115, R116: whoever moves, a `WRITE a, d` in progress stays in progress or returns with its guarantees: the
log has gained start, `a`, `d` and perhaps the stop, in that order; one wake; the response carries no value. -/
def Obligations.WriteGuarantees : Prop :=
  ∀ (s : State) (a d : Byte) (log : List BusItem) (w : Nat) (rs : List Response), s.writeCall a d log w rs →
    ∃ t, step s = .next t ∧ (t.writeCall a d log w rs ∨ t.writeReturned a d log w rs)

/-- R110, R115, R144: a `WRITE` whose peripheral does not stall and whose handler runs at once returns in eleven steps. -/
def Obligations.WriteReturns : Prop :=
  ∀ (s : State) (a d : Byte) (ws : List CmdWord) (ts : List Turn),
    s.protocol → s.free → s.fg = Fg.idle → s.ctl.swrst = false → s.ie.txEmpty = true → s.causePending = false →
    s.cmds = mkCmd 0 a d :: ws → s.sched = writeTurns ++ ts →
    ∃ t, runSteps 11 s = .next t ∧ t.writeReturned a d s.txLog s.wakeCount s.responses ∧ t.cmds = ws ∧ t.sched = ts

/-- R81, R120: an accepted `READ a` starts a call; the bytes it will return are those the slave has still to supply. -/
def Obligations.ReadAccepted : Prop :=
  ∀ (s : State) (a : Byte), s.protocol → Memory.wf s.rxBuf = true → s.accepts (.read a) →
    ∃ t, step s = .next t ∧
      t.readCall a (if s.ctl.txstp = true then s.txLog ++ [BusItem.stop] else s.txLog) s.rxSrc s.wakeCount s.responses

/-- R43, R102, R120, R130: whoever moves, a `READ a` in progress stays in progress or returns with its guarantees: the log
has gained start, `a`, stop, start and perhaps the stop, in that order; the three bytes returned are the three the slave
supplied, in order; two wakes. -/
def Obligations.ReadGuarantees : Prop :=
  ∀ (s : State) (a : Byte) (log : List BusItem) (src : List Byte) (w : Nat) (rs : List Response),
    s.readCall a log src w rs →
    ∃ t, step s = .next t ∧ (t.readCall a log src w rs ∨ t.readReturned a log src w rs)

/-! ### Armed, and the end of a run -/

/-- R9, R37, under both policies and from every state: a transaction is armed by the `*_ARM` step that issues its start, and
from then until the completing tier of its kind executes its `wake()`, also where that `wake()` comes before the `*_SLEEP` and
is lost; the `*_SLEEP` after a lost `wake()` makes `armed` true with `lpm`, and from there on only a `wake()` ends it. Under the
protocol, before the `*_SLEEP`, the transaction is armed exactly as long as it goes on. How `armed` is known before the
`*_SLEEP`, and that a completing tier of the other kind does not end it there, is the model's reading (log entry 11). -/
def Obligations.ArmedInterval : Prop :=
  ∀ s t : State, step s = .next t →
    (s.turn.move = .foreground → s.lpm = false → s.fg = Fg.wArm ∨ s.fg = Fg.r1Arm ∨ s.fg = Fg.r2Arm →
      s.armed = false ∧ t.armed = true) ∧
    (s.armed = false → t.armed = true → s.turn.move = .foreground ∧
      (s.fg = Fg.wArm ∨ s.fg = Fg.r1Arm ∨ s.fg = Fg.r2Arm ∨ (s.inArmWindow = true ∧ t.lpm = true))) ∧
    (s.armed = true → s.lpm = false →
      (t.armed = false ↔ s.turn.move = .interrupt ∧ s.interruptEnabled = true ∧ s.aborted = false ∧
        ((s.fg ≠ Fg.r2Sleep ∧ decodeEvent s.iv s.txRemaining s.rxRemaining = .txDone) ∨
         (s.fg = Fg.r2Sleep ∧ decodeEvent s.iv s.txRemaining s.rxRemaining = .rxLast)))) ∧
    (s.lpm = true → s.inArmWindow = false →
      (t.armed = false ↔ s.turn.move = .interrupt ∧ s.interruptEnabled = true ∧
        ((s.aborted = false ∧ (decodeEvent s.iv s.txRemaining s.rxRemaining = .txDone ∨
           decodeEvent s.iv s.txRemaining s.rxRemaining = .rxLast)) ∨
         (s.par.nackPolicy = .surface ∧ s.status = Status.ok ∧ (s.iv = Ev.nack ∨ s.iv = Ev.arbLost))))) ∧
    (t.inArmWindow = false → t.armed = t.lpm) ∧
    (s.protocol → (s.inArmWindow = true → (s.armed = true ↔ s.transmitting ∨ s.receiving)) →
      t.inArmWindow = true → (t.armed = true ↔ t.transmitting ∨ t.receiving))

/-- R38, R201, R206. Over every step of a run, under both policies, the commands answered, waiting at the port, still to be
presented and being executed stay the same in number: each is answered once, and at most one is in progress. And under
`Ignore`, when a run of a list of commands has ended, every command has been answered, the last stop has completed and the bus
is idle; and the end is final. That words wait at the port and that answers are kept (log entries 7 and 17), and what a run is
made of (log entry 30), are the model's choices. -/
def Obligations.CommandsAnsweredOnce : Prop :=
  (∀ (s t : State) (h h' : List CmdWord), step s = .next t → presents s.turn.move h h' →
    t.commandCount h' = s.commandCount h) ∧
  ∀ (p : Params) (src : List Byte) (ws : List CmdWord) (s : State) (h : List CmdWord),
    p.nackPolicy = .ignore → InRun p src ws s h → s.ended h = true →
    h = [] ∧ s.responses.length = ws.length ∧ s.ctl.txstp = false ∧ s.bus = .busIdle ∧
    ∀ (t : State) (h' : List CmdWord), step s = .next t → presents s.turn.move h h' → t.ended h' = true

end
end

