-- ==== Sys2Proof/Laws/Decode.lean ====
section
/-! SUPPORT. Laws/Decode.lean: what each code decodes to, one equation per row of R62, R66 and R67. -/

namespace Sys2Proof

theorem decodeEvent_none (tx rx : Counter) : decodeEvent Ev.none tx rx = .evNone := rfl
theorem decodeEvent_arbLost (tx rx : Counter) : decodeEvent Ev.arbLost tx rx = .evArbLost := rfl
theorem decodeEvent_nack (tx rx : Counter) : decodeEvent Ev.nack tx rx = .evNack := rfl
theorem decodeEvent_start (tx rx : Counter) : decodeEvent Ev.start tx rx = .evStart := rfl
theorem decodeEvent_stop (tx rx : Counter) : decodeEvent Ev.stop tx rx = .evStop := rfl
theorem decodeEvent_reserved (tx rx : Counter) : decodeEvent Ev.reserved tx rx = .evNoneReserved := rfl

theorem decodeEvent_rxFull (tx rx : Counter) :
    decodeEvent Ev.rxFull tx rx = if 2 < rx then .rxCont else if rx = 2 then .rxPenult else .rxLast := rfl

theorem decodeEvent_txEmpty (tx rx : Counter) :
    decodeEvent Ev.txEmpty tx rx = if 1 < tx then .txAddr else if tx = 1 then .txData else .txDone := rfl

theorem decodeEvent_rxCont (tx rx : Counter) (h : 2 < rx) : decodeEvent Ev.rxFull tx rx = .rxCont := by
  rw [decodeEvent_rxFull, if_pos h]

theorem decodeEvent_rxPenult (tx rx : Counter) (h : rx = 2) : decodeEvent Ev.rxFull tx rx = .rxPenult := by
  subst h; rfl

theorem decodeEvent_rxLast (tx rx : Counter) (h : rx ≤ 1) : decodeEvent Ev.rxFull tx rx = .rxLast := by
  have h1 : ¬ 2 < rx := by bv_omega
  have h2 : rx ≠ 2 := by bv_omega
  rw [decodeEvent_rxFull, if_neg h1, if_neg h2]

theorem decodeEvent_txAddr (tx rx : Counter) (h : 1 < tx) : decodeEvent Ev.txEmpty tx rx = .txAddr := by
  rw [decodeEvent_txEmpty, if_pos h]

theorem decodeEvent_txData (tx rx : Counter) (h : tx = 1) : decodeEvent Ev.txEmpty tx rx = .txData := by
  subst h; rfl

theorem decodeEvent_txDone (tx rx : Counter) (h : tx = 0) : decodeEvent Ev.txEmpty tx rx = .txDone := by
  subst h; rfl

/-- The codes of format E, one by one. -/
theorem EventCode.cases (c : EventCode) :
    c = Ev.none ∨ c = Ev.arbLost ∨ c = Ev.nack ∨ c = Ev.start ∨ c = Ev.stop ∨ c = Ev.rxFull ∨ c = Ev.txEmpty ∨
    c = Ev.reserved := by
  revert c
  decide

/-- Every position but the reserved ones decodes to a micro-operation or `IDLE`, and a reserved one to its fault. -/
theorem fgReserved_iff (fg : FgCode) :
    fgReserved fg = true ↔ decodePosition fg = .fgReserved14 ∨ decodePosition fg = .fgReserved15 := by
  revert fg
  decide

/-! ### Format C -/

/-- The bits of `{op, a, d}` (R61). -/
theorem getLsbD_mkCmd (op : BitVec 1) (a d : Byte) (i : Nat) :
    (mkCmd op a d).getLsbD i =
      if i < 8 then d.getLsbD i else if i < 16 then a.getLsbD (i - 8) else op.getLsbD (i - 16) := by
  have e : (mkCmd op a d).getLsbD i = (op ++ a ++ d : BitVec (1 + 8 + 8)).getLsbD i := rfl
  rw [e]
  simp only [BitVec.getLsbD_append]
  by_cases h1 : i < 8
  · simp [h1]
  · by_cases h2 : i < 16
    · have h3 : i - 8 < 8 := by omega
      simp [h1, h2, h3]
    · have h3 : ¬ i - 8 < 8 := by omega
      simp [h1, h2, h3, show i - 8 - 8 = i - 16 by omega]

@[simp] theorem cmdOp_mkCmd (op : BitVec 1) (a d : Byte) : cmdOp (mkCmd op a d) = op := by
  ext i hi
  have h1 : ¬ 16 + i < 8 := by omega
  simp [cmdOp, BitVec.getElem_extractLsb', getLsbD_mkCmd, h1, BitVec.getLsbD_eq_getElem hi]

@[simp] theorem cmdA_mkCmd (op : BitVec 1) (a d : Byte) : cmdA (mkCmd op a d) = a := by
  ext i hi
  have h1 : 8 + i < 16 := by omega
  simp [cmdA, BitVec.getElem_extractLsb', getLsbD_mkCmd, h1, BitVec.getLsbD_eq_getElem hi]

@[simp] theorem cmdD_mkCmd (op : BitVec 1) (a d : Byte) : cmdD (mkCmd op a d) = d := by
  ext i hi
  simp [cmdD, BitVec.getElem_extractLsb', getLsbD_mkCmd, hi]

end Sys2Proof
end

