-- ==== Sys2Proof/Laws/Memory.lean ====
section
/-! SUPPORT. Laws/Memory.lean: reading after writing the receive destination, and its canonical form. -/

namespace Sys2Proof.Machine

theorem Memory.wfFrom_mono (m : Memory) (lo hi : Nat) (h : lo ≤ hi) (w : Memory.wfFrom hi m = true) :
    Memory.wfFrom lo m = true := by
  cases m with
  | nil => rfl
  | cons c rest =>
    simp only [Memory.wfFrom, Bool.and_eq_true, decide_eq_true_eq] at w ⊢
    exact ⟨⟨⟨Nat.le_trans h w.1.1.1, w.1.1.2⟩, w.1.2⟩, w.2⟩

/-- Below the first listed address every cell is blank. -/
theorem Memory.read_of_wfFrom (m : Memory) (lo a : Nat) (w : Memory.wfFrom lo m = true) (h : a < lo) :
    Memory.read m a = Memory.blank := by
  induction m generalizing lo with
  | nil => rfl
  | cons c rest ih =>
    simp only [Memory.wfFrom, Bool.and_eq_true, decide_eq_true_eq] at w
    have hne : c.1 ≠ a := by omega
    simp only [Memory.read, hne, if_false]
    exact ih (c.1 + 1) w.2 (by omega)

theorem Memory.wfFrom_write (m : Memory) (lo a : Nat) (v : Byte) (w : Memory.wfFrom lo m = true) (hlo : lo ≤ a)
    (ha : a < Config.rxCells) : Memory.wfFrom lo (Memory.write m a v) = true := by
  induction m generalizing lo with
  | nil =>
    simp only [Memory.write]
    split
    · rfl
    · simp [Memory.wfFrom, *]
  | cons c rest ih =>
    simp only [Memory.wfFrom, Bool.and_eq_true, decide_eq_true_eq] at w
    obtain ⟨⟨⟨h1, h2⟩, h3⟩, h4⟩ := w
    simp only [Memory.write]
    split
    · split
      · simp [Memory.wfFrom, *]
      · simp [Memory.wfFrom, *]
    · split
      · split
        · exact Memory.wfFrom_mono _ _ _ (by omega) h4
        · next hk _ => subst hk; simp [Memory.wfFrom, *]
      · have := ih (c.1 + 1) h4 (by omega)
        simp [Memory.wfFrom, *]

/-- A store inside the destination keeps the canonical form. -/
theorem Memory.wf_write (m : Memory) (a : Nat) (v : Byte) (w : Memory.wf m = true) (ha : a < Config.rxCells) :
    Memory.wf (Memory.write m a v) = true :=
  Memory.wfFrom_write m 0 a v w (Nat.zero_le a) ha

theorem Memory.read_write_from (m : Memory) (lo a b : Nat) (v : Byte) (w : Memory.wfFrom lo m = true) :
    Memory.read (Memory.write m a v) b = if a = b then v else Memory.read m b := by
  induction m generalizing lo with
  | nil =>
    simp only [Memory.write]
    split
    · simp [Memory.read, *]
    · simp [Memory.read]
  | cons c rest ih =>
    simp only [Memory.wfFrom, Bool.and_eq_true, decide_eq_true_eq] at w
    obtain ⟨⟨⟨h1, h2⟩, h3⟩, h4⟩ := w
    simp only [Memory.write]
    split
    · next hlt =>
      split
      · next hv =>
        by_cases hab : a = b
        · subst hab
          have hca : c.1 ≠ a := by omega
          simp only [Memory.read, hca, if_false, if_true, hv]
          exact Memory.read_of_wfFrom rest (c.1 + 1) a h4 (by omega)
        · simp [hab]
      · simp [Memory.read]
    · next hge =>
      split
      · next heq =>
        split
        · next hv =>
          by_cases hab : a = b
          · subst hab
            simp only [if_true, hv]
            exact Memory.read_of_wfFrom rest (c.1 + 1) a h4 (by omega)
          · have hcb : c.1 ≠ b := by omega
            simp [Memory.read, hab, hcb]
        · by_cases hab : a = b
          · simp [Memory.read, hab]
          · have hcb : c.1 ≠ b := by omega
            simp [Memory.read, hab, hcb]
      · next hne =>
        by_cases hcb : c.1 = b
        · have hab : a ≠ b := by omega
          simp [Memory.read, hcb, hab]
        · simp only [Memory.read, hcb, if_false]
          exact ih (c.1 + 1) h4

/-- What a cell reads after a store: the stored byte in the cell stored to, the old byte in every other. -/
theorem Memory.read_write (m : Memory) (a b : Nat) (v : Byte) (w : Memory.wf m = true) :
    Memory.read (Memory.write m a v) b = if a = b then v else Memory.read m b :=
  Memory.read_write_from m 0 a b v w

end Sys2Proof.Machine
end

