-- ==== Sys2Proof/Laws/State.lean ====
section
/-! SUPPORT. Laws/State.lean: what every field reads after every update, one equation per field and update, so that no
later proof unfolds a record update. Each theorem is the conjunction of its update's equations, one for each of the 31
fields of State; as simp rules they count one by one. -/

namespace Sys2Proof.Machine

/-- `issueStart` (R136). -/
@[simp] theorem State.issueStart_fields (s : State) :
    (s.issueStart).direction = s.direction ∧ (s.issueStart).txRemaining = s.txRemaining ∧
    (s.issueStart).rxRemaining = s.rxRemaining ∧ (s.issueStart).addrByte = s.addrByte ∧
    (s.issueStart).dataByte = s.dataByte ∧ (s.issueStart).rxCursor = s.rxCursor ∧ (s.issueStart).rxBuf = s.rxBuf ∧
    (s.issueStart).par = s.par ∧ (s.issueStart).fg = s.fg ∧ (s.issueStart).lpm = s.lpm ∧ (s.issueStart).gie = s.gie ∧
    (s.issueStart).status = s.status ∧ (s.issueStart).ctl = { s.ctl with txstt := true } ∧
    (s.issueStart).clkSrc = s.clkSrc ∧ (s.issueStart).br = s.br ∧ (s.issueStart).sa = s.sa ∧
    (s.issueStart).txbuf = s.txbuf ∧ (s.issueStart).rxbuf = s.rxbuf ∧ (s.issueStart).ie = s.ie ∧
    (s.issueStart).ifg = s.ifg ∧ (s.issueStart).iv = s.iv ∧ (s.issueStart).txbufFull = s.txbufFull ∧
    (s.issueStart).bus = s.bus ∧ (s.issueStart).rxSrc = s.rxSrc ∧ (s.issueStart).txLog = s.txLog ∧
    (s.issueStart).wakeCount = s.wakeCount ∧ (s.issueStart).cmds = s.cmds ∧ (s.issueStart).responses = s.responses ∧
    (s.issueStart).woken = s.woken ∧ (s.issueStart).sched = s.sched ∧ (s.issueStart).freeCount = s.freeCount := by
  repeat' constructor

/-- `issueStop` (R136). -/
@[simp] theorem State.issueStop_fields (s : State) :
    (s.issueStop).direction = s.direction ∧ (s.issueStop).txRemaining = s.txRemaining ∧
    (s.issueStop).rxRemaining = s.rxRemaining ∧ (s.issueStop).addrByte = s.addrByte ∧
    (s.issueStop).dataByte = s.dataByte ∧ (s.issueStop).rxCursor = s.rxCursor ∧ (s.issueStop).rxBuf = s.rxBuf ∧
    (s.issueStop).par = s.par ∧ (s.issueStop).fg = s.fg ∧ (s.issueStop).lpm = s.lpm ∧ (s.issueStop).gie = s.gie ∧
    (s.issueStop).status = s.status ∧ (s.issueStop).ctl = { s.ctl with txstp := true } ∧
    (s.issueStop).clkSrc = s.clkSrc ∧ (s.issueStop).br = s.br ∧ (s.issueStop).sa = s.sa ∧
    (s.issueStop).txbuf = s.txbuf ∧ (s.issueStop).rxbuf = s.rxbuf ∧ (s.issueStop).ie = s.ie ∧
    (s.issueStop).ifg = s.ifg ∧ (s.issueStop).iv = s.iv ∧ (s.issueStop).txbufFull = s.txbufFull ∧
    (s.issueStop).bus = s.bus ∧ (s.issueStop).rxSrc = s.rxSrc ∧ (s.issueStop).txLog = s.txLog ∧
    (s.issueStop).wakeCount = s.wakeCount ∧ (s.issueStop).cmds = s.cmds ∧ (s.issueStop).responses = s.responses ∧
    (s.issueStop).woken = s.woken ∧ (s.issueStop).sched = s.sched ∧ (s.issueStop).freeCount = s.freeCount := by
  repeat' constructor

/-- `setTr` (R136). -/
@[simp] theorem State.setTr_fields (s : State) :
    (s.setTr).direction = s.direction ∧ (s.setTr).txRemaining = s.txRemaining ∧
    (s.setTr).rxRemaining = s.rxRemaining ∧ (s.setTr).addrByte = s.addrByte ∧ (s.setTr).dataByte = s.dataByte ∧
    (s.setTr).rxCursor = s.rxCursor ∧ (s.setTr).rxBuf = s.rxBuf ∧ (s.setTr).par = s.par ∧ (s.setTr).fg = s.fg ∧
    (s.setTr).lpm = s.lpm ∧ (s.setTr).gie = s.gie ∧ (s.setTr).status = s.status ∧
    (s.setTr).ctl = { s.ctl with tr := true } ∧ (s.setTr).clkSrc = s.clkSrc ∧ (s.setTr).br = s.br ∧
    (s.setTr).sa = s.sa ∧ (s.setTr).txbuf = s.txbuf ∧ (s.setTr).rxbuf = s.rxbuf ∧ (s.setTr).ie = s.ie ∧
    (s.setTr).ifg = s.ifg ∧ (s.setTr).iv = s.iv ∧ (s.setTr).txbufFull = s.txbufFull ∧ (s.setTr).bus = s.bus ∧
    (s.setTr).rxSrc = s.rxSrc ∧ (s.setTr).txLog = s.txLog ∧ (s.setTr).wakeCount = s.wakeCount ∧
    (s.setTr).cmds = s.cmds ∧ (s.setTr).responses = s.responses ∧ (s.setTr).woken = s.woken ∧
    (s.setTr).sched = s.sched ∧ (s.setTr).freeCount = s.freeCount := by
  repeat' constructor

/-- `clearTr` (R136). -/
@[simp] theorem State.clearTr_fields (s : State) :
    (s.clearTr).direction = s.direction ∧ (s.clearTr).txRemaining = s.txRemaining ∧
    (s.clearTr).rxRemaining = s.rxRemaining ∧ (s.clearTr).addrByte = s.addrByte ∧ (s.clearTr).dataByte = s.dataByte ∧
    (s.clearTr).rxCursor = s.rxCursor ∧ (s.clearTr).rxBuf = s.rxBuf ∧ (s.clearTr).par = s.par ∧
    (s.clearTr).fg = s.fg ∧ (s.clearTr).lpm = s.lpm ∧ (s.clearTr).gie = s.gie ∧ (s.clearTr).status = s.status ∧
    (s.clearTr).ctl = { s.ctl with tr := false } ∧ (s.clearTr).clkSrc = s.clkSrc ∧ (s.clearTr).br = s.br ∧
    (s.clearTr).sa = s.sa ∧ (s.clearTr).txbuf = s.txbuf ∧ (s.clearTr).rxbuf = s.rxbuf ∧ (s.clearTr).ie = s.ie ∧
    (s.clearTr).ifg = s.ifg ∧ (s.clearTr).iv = s.iv ∧ (s.clearTr).txbufFull = s.txbufFull ∧ (s.clearTr).bus = s.bus ∧
    (s.clearTr).rxSrc = s.rxSrc ∧ (s.clearTr).txLog = s.txLog ∧ (s.clearTr).wakeCount = s.wakeCount ∧
    (s.clearTr).cmds = s.cmds ∧ (s.clearTr).responses = s.responses ∧ (s.clearTr).woken = s.woken ∧
    (s.clearTr).sched = s.sched ∧ (s.clearTr).freeCount = s.freeCount := by
  repeat' constructor

/-- `writeTxbuf` (R136). -/
@[simp] theorem State.writeTxbuf_fields (s : State) (b : Byte) :
    (s.writeTxbuf b).direction = s.direction ∧ (s.writeTxbuf b).txRemaining = s.txRemaining ∧
    (s.writeTxbuf b).rxRemaining = s.rxRemaining ∧ (s.writeTxbuf b).addrByte = s.addrByte ∧
    (s.writeTxbuf b).dataByte = s.dataByte ∧ (s.writeTxbuf b).rxCursor = s.rxCursor ∧
    (s.writeTxbuf b).rxBuf = s.rxBuf ∧ (s.writeTxbuf b).par = s.par ∧ (s.writeTxbuf b).fg = s.fg ∧
    (s.writeTxbuf b).lpm = s.lpm ∧ (s.writeTxbuf b).gie = s.gie ∧ (s.writeTxbuf b).status = s.status ∧
    (s.writeTxbuf b).ctl = s.ctl ∧ (s.writeTxbuf b).clkSrc = s.clkSrc ∧ (s.writeTxbuf b).br = s.br ∧
    (s.writeTxbuf b).sa = s.sa ∧ (s.writeTxbuf b).txbuf = b ∧ (s.writeTxbuf b).rxbuf = s.rxbuf ∧
    (s.writeTxbuf b).ie = s.ie ∧ (s.writeTxbuf b).ifg = { s.ifg with txEmpty := false } ∧
    (s.writeTxbuf b).iv = s.iv ∧ (s.writeTxbuf b).txbufFull = true ∧ (s.writeTxbuf b).bus = s.bus ∧
    (s.writeTxbuf b).rxSrc = s.rxSrc ∧ (s.writeTxbuf b).txLog = s.txLog ∧ (s.writeTxbuf b).wakeCount = s.wakeCount ∧
    (s.writeTxbuf b).cmds = s.cmds ∧ (s.writeTxbuf b).responses = s.responses ∧ (s.writeTxbuf b).woken = s.woken ∧
    (s.writeTxbuf b).sched = s.sched ∧ (s.writeTxbuf b).freeCount = s.freeCount := by
  repeat' constructor

/-- `clearTxifg` (R136). -/
@[simp] theorem State.clearTxifg_fields (s : State) :
    (s.clearTxifg).direction = s.direction ∧ (s.clearTxifg).txRemaining = s.txRemaining ∧
    (s.clearTxifg).rxRemaining = s.rxRemaining ∧ (s.clearTxifg).addrByte = s.addrByte ∧
    (s.clearTxifg).dataByte = s.dataByte ∧ (s.clearTxifg).rxCursor = s.rxCursor ∧ (s.clearTxifg).rxBuf = s.rxBuf ∧
    (s.clearTxifg).par = s.par ∧ (s.clearTxifg).fg = s.fg ∧ (s.clearTxifg).lpm = s.lpm ∧ (s.clearTxifg).gie = s.gie ∧
    (s.clearTxifg).status = s.status ∧ (s.clearTxifg).ctl = s.ctl ∧ (s.clearTxifg).clkSrc = s.clkSrc ∧
    (s.clearTxifg).br = s.br ∧ (s.clearTxifg).sa = s.sa ∧ (s.clearTxifg).txbuf = s.txbuf ∧
    (s.clearTxifg).rxbuf = s.rxbuf ∧ (s.clearTxifg).ie = s.ie ∧
    (s.clearTxifg).ifg = { s.ifg with txEmpty := false } ∧ (s.clearTxifg).iv = s.iv ∧
    (s.clearTxifg).txbufFull = s.txbufFull ∧ (s.clearTxifg).bus = s.bus ∧ (s.clearTxifg).rxSrc = s.rxSrc ∧
    (s.clearTxifg).txLog = s.txLog ∧ (s.clearTxifg).wakeCount = s.wakeCount ∧ (s.clearTxifg).cmds = s.cmds ∧
    (s.clearTxifg).responses = s.responses ∧ (s.clearTxifg).woken = s.woken ∧ (s.clearTxifg).sched = s.sched ∧
    (s.clearTxifg).freeCount = s.freeCount := by
  repeat' constructor

/-- `readRxbuf` (R136). -/
@[simp] theorem State.readRxbuf_fields (s : State) :
    (s.readRxbuf).direction = s.direction ∧ (s.readRxbuf).txRemaining = s.txRemaining ∧
    (s.readRxbuf).rxRemaining = s.rxRemaining ∧ (s.readRxbuf).addrByte = s.addrByte ∧
    (s.readRxbuf).dataByte = s.dataByte ∧ (s.readRxbuf).rxCursor = s.rxCursor ∧ (s.readRxbuf).rxBuf = s.rxBuf ∧
    (s.readRxbuf).par = s.par ∧ (s.readRxbuf).fg = s.fg ∧ (s.readRxbuf).lpm = s.lpm ∧ (s.readRxbuf).gie = s.gie ∧
    (s.readRxbuf).status = s.status ∧ (s.readRxbuf).ctl = s.ctl ∧ (s.readRxbuf).clkSrc = s.clkSrc ∧
    (s.readRxbuf).br = s.br ∧ (s.readRxbuf).sa = s.sa ∧ (s.readRxbuf).txbuf = s.txbuf ∧
    (s.readRxbuf).rxbuf = s.rxbuf ∧ (s.readRxbuf).ie = s.ie ∧ (s.readRxbuf).ifg = { s.ifg with rxFull := false } ∧
    (s.readRxbuf).iv = s.iv ∧ (s.readRxbuf).txbufFull = s.txbufFull ∧ (s.readRxbuf).bus = s.bus ∧
    (s.readRxbuf).rxSrc = s.rxSrc ∧ (s.readRxbuf).txLog = s.txLog ∧ (s.readRxbuf).wakeCount = s.wakeCount ∧
    (s.readRxbuf).cmds = s.cmds ∧ (s.readRxbuf).responses = s.responses ∧ (s.readRxbuf).woken = s.woken ∧
    (s.readRxbuf).sched = s.sched ∧ (s.readRxbuf).freeCount = s.freeCount := by
  repeat' constructor

/-- `ackOther` (R168). -/
@[simp] theorem State.ackOther_fields (s : State) (e : OtherEvent) :
    (s.ackOther e).direction = s.direction ∧ (s.ackOther e).txRemaining = s.txRemaining ∧
    (s.ackOther e).rxRemaining = s.rxRemaining ∧ (s.ackOther e).addrByte = s.addrByte ∧
    (s.ackOther e).dataByte = s.dataByte ∧ (s.ackOther e).rxCursor = s.rxCursor ∧ (s.ackOther e).rxBuf = s.rxBuf ∧
    (s.ackOther e).par = s.par ∧ (s.ackOther e).fg = s.fg ∧ (s.ackOther e).lpm = s.lpm ∧ (s.ackOther e).gie = s.gie ∧
    (s.ackOther e).status = s.status ∧ (s.ackOther e).ctl = s.ctl ∧ (s.ackOther e).clkSrc = s.clkSrc ∧
    (s.ackOther e).br = s.br ∧ (s.ackOther e).sa = s.sa ∧ (s.ackOther e).txbuf = s.txbuf ∧
    (s.ackOther e).rxbuf = s.rxbuf ∧ (s.ackOther e).ie = s.ie ∧ (s.ackOther e).ifg = s.ifg.setOther e false ∧
    (s.ackOther e).iv = s.iv ∧ (s.ackOther e).txbufFull = s.txbufFull ∧ (s.ackOther e).bus = s.bus ∧
    (s.ackOther e).rxSrc = s.rxSrc ∧ (s.ackOther e).txLog = s.txLog ∧ (s.ackOther e).wakeCount = s.wakeCount ∧
    (s.ackOther e).cmds = s.cmds ∧ (s.ackOther e).responses = s.responses ∧ (s.ackOther e).woken = s.woken ∧
    (s.ackOther e).sched = s.sched ∧ (s.ackOther e).freeCount = s.freeCount := by
  repeat' constructor

/-- `advanceCursor` (R106). -/
@[simp] theorem State.advanceCursor_fields (s : State) :
    (s.advanceCursor).direction = s.direction ∧ (s.advanceCursor).txRemaining = s.txRemaining ∧
    (s.advanceCursor).rxRemaining = s.rxRemaining ∧ (s.advanceCursor).addrByte = s.addrByte ∧
    (s.advanceCursor).dataByte = s.dataByte ∧ (s.advanceCursor).rxCursor = s.rxCursor + 1 ∧
    (s.advanceCursor).rxBuf = s.rxBuf ∧ (s.advanceCursor).par = s.par ∧ (s.advanceCursor).fg = s.fg ∧
    (s.advanceCursor).lpm = s.lpm ∧ (s.advanceCursor).gie = s.gie ∧ (s.advanceCursor).status = s.status ∧
    (s.advanceCursor).ctl = s.ctl ∧ (s.advanceCursor).clkSrc = s.clkSrc ∧ (s.advanceCursor).br = s.br ∧
    (s.advanceCursor).sa = s.sa ∧ (s.advanceCursor).txbuf = s.txbuf ∧ (s.advanceCursor).rxbuf = s.rxbuf ∧
    (s.advanceCursor).ie = s.ie ∧ (s.advanceCursor).ifg = s.ifg ∧ (s.advanceCursor).iv = s.iv ∧
    (s.advanceCursor).txbufFull = s.txbufFull ∧ (s.advanceCursor).bus = s.bus ∧ (s.advanceCursor).rxSrc = s.rxSrc ∧
    (s.advanceCursor).txLog = s.txLog ∧ (s.advanceCursor).wakeCount = s.wakeCount ∧ (s.advanceCursor).cmds = s.cmds ∧
    (s.advanceCursor).responses = s.responses ∧ (s.advanceCursor).woken = s.woken ∧
    (s.advanceCursor).sched = s.sched ∧ (s.advanceCursor).freeCount = s.freeCount := by
  repeat' constructor

/-- `sleep` (R53). -/
@[simp] theorem State.sleep_fields (s : State) :
    (s.sleep).direction = s.direction ∧ (s.sleep).txRemaining = s.txRemaining ∧
    (s.sleep).rxRemaining = s.rxRemaining ∧ (s.sleep).addrByte = s.addrByte ∧ (s.sleep).dataByte = s.dataByte ∧
    (s.sleep).rxCursor = s.rxCursor ∧ (s.sleep).rxBuf = s.rxBuf ∧ (s.sleep).par = s.par ∧ (s.sleep).fg = s.fg ∧
    (s.sleep).lpm = true ∧ (s.sleep).gie = true ∧ (s.sleep).status = s.status ∧ (s.sleep).ctl = s.ctl ∧
    (s.sleep).clkSrc = s.clkSrc ∧ (s.sleep).br = s.br ∧ (s.sleep).sa = s.sa ∧ (s.sleep).txbuf = s.txbuf ∧
    (s.sleep).rxbuf = s.rxbuf ∧ (s.sleep).ie = s.ie ∧ (s.sleep).ifg = s.ifg ∧ (s.sleep).iv = s.iv ∧
    (s.sleep).txbufFull = s.txbufFull ∧ (s.sleep).bus = s.bus ∧ (s.sleep).rxSrc = s.rxSrc ∧
    (s.sleep).txLog = s.txLog ∧ (s.sleep).wakeCount = s.wakeCount ∧ (s.sleep).cmds = s.cmds ∧
    (s.sleep).responses = s.responses ∧ (s.sleep).woken = s.woken ∧ (s.sleep).sched = s.sched ∧
    (s.sleep).freeCount = s.freeCount := by
  repeat' constructor

/-- `goto` (R8). -/
@[simp] theorem State.goto_fields (s : State) (x : FgCode) :
    (s.goto x).direction = s.direction ∧ (s.goto x).txRemaining = s.txRemaining ∧
    (s.goto x).rxRemaining = s.rxRemaining ∧ (s.goto x).addrByte = s.addrByte ∧ (s.goto x).dataByte = s.dataByte ∧
    (s.goto x).rxCursor = s.rxCursor ∧ (s.goto x).rxBuf = s.rxBuf ∧ (s.goto x).par = s.par ∧ (s.goto x).fg = x ∧
    (s.goto x).lpm = s.lpm ∧ (s.goto x).gie = s.gie ∧ (s.goto x).status = s.status ∧ (s.goto x).ctl = s.ctl ∧
    (s.goto x).clkSrc = s.clkSrc ∧ (s.goto x).br = s.br ∧ (s.goto x).sa = s.sa ∧ (s.goto x).txbuf = s.txbuf ∧
    (s.goto x).rxbuf = s.rxbuf ∧ (s.goto x).ie = s.ie ∧ (s.goto x).ifg = s.ifg ∧ (s.goto x).iv = s.iv ∧
    (s.goto x).txbufFull = s.txbufFull ∧ (s.goto x).bus = s.bus ∧ (s.goto x).rxSrc = s.rxSrc ∧
    (s.goto x).txLog = s.txLog ∧ (s.goto x).wakeCount = s.wakeCount ∧ (s.goto x).cmds = s.cmds ∧
    (s.goto x).responses = s.responses ∧ (s.goto x).woken = s.woken ∧ (s.goto x).sched = s.sched ∧
    (s.goto x).freeCount = s.freeCount := by
  repeat' constructor

/-- `setStatus` (R163). -/
@[simp] theorem State.setStatus_fields (s : State) (x : StatusCode) :
    (s.setStatus x).direction = s.direction ∧ (s.setStatus x).txRemaining = s.txRemaining ∧
    (s.setStatus x).rxRemaining = s.rxRemaining ∧ (s.setStatus x).addrByte = s.addrByte ∧
    (s.setStatus x).dataByte = s.dataByte ∧ (s.setStatus x).rxCursor = s.rxCursor ∧ (s.setStatus x).rxBuf = s.rxBuf ∧
    (s.setStatus x).par = s.par ∧ (s.setStatus x).fg = s.fg ∧ (s.setStatus x).lpm = s.lpm ∧
    (s.setStatus x).gie = s.gie ∧ (s.setStatus x).status = x ∧ (s.setStatus x).ctl = s.ctl ∧
    (s.setStatus x).clkSrc = s.clkSrc ∧ (s.setStatus x).br = s.br ∧ (s.setStatus x).sa = s.sa ∧
    (s.setStatus x).txbuf = s.txbuf ∧ (s.setStatus x).rxbuf = s.rxbuf ∧ (s.setStatus x).ie = s.ie ∧
    (s.setStatus x).ifg = s.ifg ∧ (s.setStatus x).iv = s.iv ∧ (s.setStatus x).txbufFull = s.txbufFull ∧
    (s.setStatus x).bus = s.bus ∧ (s.setStatus x).rxSrc = s.rxSrc ∧ (s.setStatus x).txLog = s.txLog ∧
    (s.setStatus x).wakeCount = s.wakeCount ∧ (s.setStatus x).cmds = s.cmds ∧
    (s.setStatus x).responses = s.responses ∧ (s.setStatus x).woken = s.woken ∧ (s.setStatus x).sched = s.sched ∧
    (s.setStatus x).freeCount = s.freeCount := by
  repeat' constructor

/-- `respond` (R38). -/
@[simp] theorem State.respond_fields (s : State) (r : Response) :
    (s.respond r).direction = s.direction ∧ (s.respond r).txRemaining = s.txRemaining ∧
    (s.respond r).rxRemaining = s.rxRemaining ∧ (s.respond r).addrByte = s.addrByte ∧
    (s.respond r).dataByte = s.dataByte ∧ (s.respond r).rxCursor = s.rxCursor ∧ (s.respond r).rxBuf = s.rxBuf ∧
    (s.respond r).par = s.par ∧ (s.respond r).fg = s.fg ∧ (s.respond r).lpm = s.lpm ∧ (s.respond r).gie = s.gie ∧
    (s.respond r).status = s.status ∧ (s.respond r).ctl = s.ctl ∧ (s.respond r).clkSrc = s.clkSrc ∧
    (s.respond r).br = s.br ∧ (s.respond r).sa = s.sa ∧ (s.respond r).txbuf = s.txbuf ∧
    (s.respond r).rxbuf = s.rxbuf ∧ (s.respond r).ie = s.ie ∧ (s.respond r).ifg = s.ifg ∧ (s.respond r).iv = s.iv ∧
    (s.respond r).txbufFull = s.txbufFull ∧ (s.respond r).bus = s.bus ∧ (s.respond r).rxSrc = s.rxSrc ∧
    (s.respond r).txLog = s.txLog ∧ (s.respond r).wakeCount = s.wakeCount ∧ (s.respond r).cmds = s.cmds ∧
    (s.respond r).responses = s.responses ++ [r] ∧ (s.respond r).woken = s.woken ∧ (s.respond r).sched = s.sched ∧
    (s.respond r).freeCount = s.freeCount := by
  repeat' constructor

/-- `latchIv` (R33). -/
@[simp] theorem State.latchIv_fields (s : State) (n : Nat) :
    (s.latchIv n).direction = s.direction ∧ (s.latchIv n).txRemaining = s.txRemaining ∧
    (s.latchIv n).rxRemaining = s.rxRemaining ∧ (s.latchIv n).addrByte = s.addrByte ∧
    (s.latchIv n).dataByte = s.dataByte ∧ (s.latchIv n).rxCursor = s.rxCursor ∧ (s.latchIv n).rxBuf = s.rxBuf ∧
    (s.latchIv n).par = s.par ∧ (s.latchIv n).fg = s.fg ∧ (s.latchIv n).lpm = s.lpm ∧ (s.latchIv n).gie = s.gie ∧
    (s.latchIv n).status = s.status ∧ (s.latchIv n).ctl = s.ctl ∧ (s.latchIv n).clkSrc = s.clkSrc ∧
    (s.latchIv n).br = s.br ∧ (s.latchIv n).sa = s.sa ∧ (s.latchIv n).txbuf = s.txbuf ∧
    (s.latchIv n).rxbuf = s.rxbuf ∧ (s.latchIv n).ie = s.ie ∧ (s.latchIv n).ifg = s.ifg ∧
    (s.latchIv n).iv = pickCode s.pending.codes n ∧ (s.latchIv n).txbufFull = s.txbufFull ∧
    (s.latchIv n).bus = s.bus ∧ (s.latchIv n).rxSrc = s.rxSrc ∧ (s.latchIv n).txLog = s.txLog ∧
    (s.latchIv n).wakeCount = s.wakeCount ∧ (s.latchIv n).cmds = s.cmds ∧ (s.latchIv n).responses = s.responses ∧
    (s.latchIv n).woken = s.woken ∧ (s.latchIv n).sched = s.sched ∧ (s.latchIv n).freeCount = s.freeCount := by
  repeat' constructor

/-- `logBus` (R35). -/
@[simp] theorem State.logBus_fields (s : State) (x : BusItem) :
    (s.logBus x).direction = s.direction ∧ (s.logBus x).txRemaining = s.txRemaining ∧
    (s.logBus x).rxRemaining = s.rxRemaining ∧ (s.logBus x).addrByte = s.addrByte ∧
    (s.logBus x).dataByte = s.dataByte ∧ (s.logBus x).rxCursor = s.rxCursor ∧ (s.logBus x).rxBuf = s.rxBuf ∧
    (s.logBus x).par = s.par ∧ (s.logBus x).fg = s.fg ∧ (s.logBus x).lpm = s.lpm ∧ (s.logBus x).gie = s.gie ∧
    (s.logBus x).status = s.status ∧ (s.logBus x).ctl = s.ctl ∧ (s.logBus x).clkSrc = s.clkSrc ∧
    (s.logBus x).br = s.br ∧ (s.logBus x).sa = s.sa ∧ (s.logBus x).txbuf = s.txbuf ∧ (s.logBus x).rxbuf = s.rxbuf ∧
    (s.logBus x).ie = s.ie ∧ (s.logBus x).ifg = s.ifg ∧ (s.logBus x).iv = s.iv ∧
    (s.logBus x).txbufFull = s.txbufFull ∧ (s.logBus x).bus = s.bus ∧ (s.logBus x).rxSrc = s.rxSrc ∧
    (s.logBus x).txLog = s.txLog ++ [x] ∧ (s.logBus x).wakeCount = s.wakeCount ∧ (s.logBus x).cmds = s.cmds ∧
    (s.logBus x).responses = s.responses ∧ (s.logBus x).woken = s.woken ∧ (s.logBus x).sched = s.sched ∧
    (s.logBus x).freeCount = s.freeCount := by
  repeat' constructor

/-- `pTxTake` (R139). -/
@[simp] theorem State.pTxTake_fields (s : State) :
    (s.pTxTake).direction = s.direction ∧ (s.pTxTake).txRemaining = s.txRemaining ∧
    (s.pTxTake).rxRemaining = s.rxRemaining ∧ (s.pTxTake).addrByte = s.addrByte ∧ (s.pTxTake).dataByte = s.dataByte ∧
    (s.pTxTake).rxCursor = s.rxCursor ∧ (s.pTxTake).rxBuf = s.rxBuf ∧ (s.pTxTake).par = s.par ∧
    (s.pTxTake).fg = s.fg ∧ (s.pTxTake).lpm = s.lpm ∧ (s.pTxTake).gie = s.gie ∧ (s.pTxTake).status = s.status ∧
    (s.pTxTake).ctl = s.ctl ∧ (s.pTxTake).clkSrc = s.clkSrc ∧ (s.pTxTake).br = s.br ∧ (s.pTxTake).sa = s.sa ∧
    (s.pTxTake).txbuf = s.txbuf ∧ (s.pTxTake).rxbuf = s.rxbuf ∧ (s.pTxTake).ie = s.ie ∧
    (s.pTxTake).ifg = { s.ifg with txEmpty := true } ∧ (s.pTxTake).iv = s.iv ∧ (s.pTxTake).txbufFull = false ∧
    (s.pTxTake).bus = s.bus ∧ (s.pTxTake).rxSrc = s.rxSrc ∧ (s.pTxTake).txLog = s.txLog ++ [.byte s.txbuf] ∧
    (s.pTxTake).wakeCount = s.wakeCount ∧ (s.pTxTake).cmds = s.cmds ∧ (s.pTxTake).responses = s.responses ∧
    (s.pTxTake).woken = s.woken ∧ (s.pTxTake).sched = s.sched ∧ (s.pTxTake).freeCount = s.freeCount := by
  repeat' constructor

/-- `completeStop` (R140, R142). -/
@[simp] theorem State.completeStop_fields (s : State) :
    (s.completeStop).direction = s.direction ∧ (s.completeStop).txRemaining = s.txRemaining ∧
    (s.completeStop).rxRemaining = s.rxRemaining ∧ (s.completeStop).addrByte = s.addrByte ∧
    (s.completeStop).dataByte = s.dataByte ∧ (s.completeStop).rxCursor = s.rxCursor ∧
    (s.completeStop).rxBuf = s.rxBuf ∧ (s.completeStop).par = s.par ∧ (s.completeStop).fg = s.fg ∧
    (s.completeStop).lpm = s.lpm ∧ (s.completeStop).gie = s.gie ∧ (s.completeStop).status = s.status ∧
    (s.completeStop).ctl = { s.ctl with txstp := false } ∧ (s.completeStop).clkSrc = s.clkSrc ∧
    (s.completeStop).br = s.br ∧ (s.completeStop).sa = s.sa ∧ (s.completeStop).txbuf = s.txbuf ∧
    (s.completeStop).rxbuf = s.rxbuf ∧ (s.completeStop).ie = s.ie ∧ (s.completeStop).ifg = s.ifg ∧
    (s.completeStop).iv = s.iv ∧ (s.completeStop).txbufFull = s.txbufFull ∧ (s.completeStop).bus = .busIdle ∧
    (s.completeStop).rxSrc = s.rxSrc ∧ (s.completeStop).txLog = s.txLog ++ [.stop] ∧
    (s.completeStop).wakeCount = s.wakeCount ∧ (s.completeStop).cmds = s.cmds ∧
    (s.completeStop).responses = s.responses ∧ (s.completeStop).woken = s.woken ∧ (s.completeStop).sched = s.sched ∧
    (s.completeStop).freeCount = s.freeCount := by
  repeat' constructor

/-- `bootConfig` (R192). -/
@[simp] theorem State.bootConfig_fields (s : State) :
    (s.bootConfig).direction = s.direction ∧ (s.bootConfig).txRemaining = s.txRemaining ∧
    (s.bootConfig).rxRemaining = s.rxRemaining ∧ (s.bootConfig).addrByte = s.addrByte ∧
    (s.bootConfig).dataByte = s.dataByte ∧ (s.bootConfig).rxCursor = s.rxCursor ∧ (s.bootConfig).rxBuf = s.rxBuf ∧
    (s.bootConfig).par = s.par ∧ (s.bootConfig).fg = s.fg ∧ (s.bootConfig).lpm = s.lpm ∧ (s.bootConfig).gie = s.gie ∧
    (s.bootConfig).status = s.status ∧
    (s.bootConfig).ctl = { s.ctl with mst := true, mode := .i2c, sync := true, swrst := false } ∧
    (s.bootConfig).clkSrc = s.par.clkSel ∧ (s.bootConfig).br = s.par.br ∧ (s.bootConfig).sa = s.par.sa ∧
    (s.bootConfig).txbuf = s.txbuf ∧ (s.bootConfig).rxbuf = s.rxbuf ∧
    (s.bootConfig).ie = ⟨true, true, s.par.ieOther.arbLost, s.par.ieOther.nack, s.par.ieOther.start, s.par.ieOther.stop⟩ ∧
    (s.bootConfig).ifg = s.ifg ∧ (s.bootConfig).iv = s.iv ∧ (s.bootConfig).txbufFull = s.txbufFull ∧
    (s.bootConfig).bus = s.bus ∧ (s.bootConfig).rxSrc = s.rxSrc ∧ (s.bootConfig).txLog = s.txLog ∧
    (s.bootConfig).wakeCount = s.wakeCount ∧ (s.bootConfig).cmds = s.cmds ∧ (s.bootConfig).responses = s.responses ∧
    (s.bootConfig).woken = s.woken ∧ (s.bootConfig).sched = s.sched ∧ (s.bootConfig).freeCount = s.freeCount := by
  repeat' constructor

/-- `raiseOther` (R143). -/
@[simp] theorem State.raiseOther_fields (s : State) (e : OtherEvent) :
    (s.raiseOther e).direction = s.direction ∧ (s.raiseOther e).txRemaining = s.txRemaining ∧
    (s.raiseOther e).rxRemaining = s.rxRemaining ∧ (s.raiseOther e).addrByte = s.addrByte ∧
    (s.raiseOther e).dataByte = s.dataByte ∧ (s.raiseOther e).rxCursor = s.rxCursor ∧
    (s.raiseOther e).rxBuf = s.rxBuf ∧ (s.raiseOther e).par = s.par ∧ (s.raiseOther e).fg = s.fg ∧
    (s.raiseOther e).lpm = s.lpm ∧ (s.raiseOther e).gie = s.gie ∧ (s.raiseOther e).status = s.status ∧
    (s.raiseOther e).ctl = s.ctl ∧ (s.raiseOther e).clkSrc = s.clkSrc ∧ (s.raiseOther e).br = s.br ∧
    (s.raiseOther e).sa = s.sa ∧ (s.raiseOther e).txbuf = s.txbuf ∧ (s.raiseOther e).rxbuf = s.rxbuf ∧
    (s.raiseOther e).ie = s.ie ∧ (s.raiseOther e).ifg = s.ifg.setOther e true ∧ (s.raiseOther e).iv = s.iv ∧
    (s.raiseOther e).txbufFull = s.txbufFull ∧ (s.raiseOther e).bus = s.bus ∧ (s.raiseOther e).rxSrc = s.rxSrc ∧
    (s.raiseOther e).txLog = s.txLog ∧ (s.raiseOther e).wakeCount = s.wakeCount ∧ (s.raiseOther e).cmds = s.cmds ∧
    (s.raiseOther e).responses = s.responses ∧ (s.raiseOther e).woken = s.woken ∧ (s.raiseOther e).sched = s.sched ∧
    (s.raiseOther e).freeCount = s.freeCount := by
  repeat' constructor

/-- `setDirection` (R10). -/
@[simp] theorem State.setDirection_fields (s : State) (d : Direction) :
    (s.setDirection d).direction = d ∧ (s.setDirection d).txRemaining = s.txRemaining ∧
    (s.setDirection d).rxRemaining = s.rxRemaining ∧ (s.setDirection d).addrByte = s.addrByte ∧
    (s.setDirection d).dataByte = s.dataByte ∧ (s.setDirection d).rxCursor = s.rxCursor ∧
    (s.setDirection d).rxBuf = s.rxBuf ∧ (s.setDirection d).par = s.par ∧ (s.setDirection d).fg = s.fg ∧
    (s.setDirection d).lpm = s.lpm ∧ (s.setDirection d).gie = s.gie ∧ (s.setDirection d).status = s.status ∧
    (s.setDirection d).ctl = s.ctl ∧ (s.setDirection d).clkSrc = s.clkSrc ∧ (s.setDirection d).br = s.br ∧
    (s.setDirection d).sa = s.sa ∧ (s.setDirection d).txbuf = s.txbuf ∧ (s.setDirection d).rxbuf = s.rxbuf ∧
    (s.setDirection d).ie = s.ie ∧ (s.setDirection d).ifg = s.ifg ∧ (s.setDirection d).iv = s.iv ∧
    (s.setDirection d).txbufFull = s.txbufFull ∧ (s.setDirection d).bus = s.bus ∧
    (s.setDirection d).rxSrc = s.rxSrc ∧ (s.setDirection d).txLog = s.txLog ∧
    (s.setDirection d).wakeCount = s.wakeCount ∧ (s.setDirection d).cmds = s.cmds ∧
    (s.setDirection d).responses = s.responses ∧ (s.setDirection d).woken = s.woken ∧
    (s.setDirection d).sched = s.sched ∧ (s.setDirection d).freeCount = s.freeCount := by
  repeat' constructor

/-- `setTxRemaining` (R11). -/
@[simp] theorem State.setTxRemaining_fields (s : State) (n : Counter) :
    (s.setTxRemaining n).direction = s.direction ∧ (s.setTxRemaining n).txRemaining = n ∧
    (s.setTxRemaining n).rxRemaining = s.rxRemaining ∧ (s.setTxRemaining n).addrByte = s.addrByte ∧
    (s.setTxRemaining n).dataByte = s.dataByte ∧ (s.setTxRemaining n).rxCursor = s.rxCursor ∧
    (s.setTxRemaining n).rxBuf = s.rxBuf ∧ (s.setTxRemaining n).par = s.par ∧ (s.setTxRemaining n).fg = s.fg ∧
    (s.setTxRemaining n).lpm = s.lpm ∧ (s.setTxRemaining n).gie = s.gie ∧ (s.setTxRemaining n).status = s.status ∧
    (s.setTxRemaining n).ctl = s.ctl ∧ (s.setTxRemaining n).clkSrc = s.clkSrc ∧ (s.setTxRemaining n).br = s.br ∧
    (s.setTxRemaining n).sa = s.sa ∧ (s.setTxRemaining n).txbuf = s.txbuf ∧ (s.setTxRemaining n).rxbuf = s.rxbuf ∧
    (s.setTxRemaining n).ie = s.ie ∧ (s.setTxRemaining n).ifg = s.ifg ∧ (s.setTxRemaining n).iv = s.iv ∧
    (s.setTxRemaining n).txbufFull = s.txbufFull ∧ (s.setTxRemaining n).bus = s.bus ∧
    (s.setTxRemaining n).rxSrc = s.rxSrc ∧ (s.setTxRemaining n).txLog = s.txLog ∧
    (s.setTxRemaining n).wakeCount = s.wakeCount ∧ (s.setTxRemaining n).cmds = s.cmds ∧
    (s.setTxRemaining n).responses = s.responses ∧ (s.setTxRemaining n).woken = s.woken ∧
    (s.setTxRemaining n).sched = s.sched ∧ (s.setTxRemaining n).freeCount = s.freeCount := by
  repeat' constructor

/-- `setRxRemaining` (R12). -/
@[simp] theorem State.setRxRemaining_fields (s : State) (n : Counter) :
    (s.setRxRemaining n).direction = s.direction ∧ (s.setRxRemaining n).txRemaining = s.txRemaining ∧
    (s.setRxRemaining n).rxRemaining = n ∧ (s.setRxRemaining n).addrByte = s.addrByte ∧
    (s.setRxRemaining n).dataByte = s.dataByte ∧ (s.setRxRemaining n).rxCursor = s.rxCursor ∧
    (s.setRxRemaining n).rxBuf = s.rxBuf ∧ (s.setRxRemaining n).par = s.par ∧ (s.setRxRemaining n).fg = s.fg ∧
    (s.setRxRemaining n).lpm = s.lpm ∧ (s.setRxRemaining n).gie = s.gie ∧ (s.setRxRemaining n).status = s.status ∧
    (s.setRxRemaining n).ctl = s.ctl ∧ (s.setRxRemaining n).clkSrc = s.clkSrc ∧ (s.setRxRemaining n).br = s.br ∧
    (s.setRxRemaining n).sa = s.sa ∧ (s.setRxRemaining n).txbuf = s.txbuf ∧ (s.setRxRemaining n).rxbuf = s.rxbuf ∧
    (s.setRxRemaining n).ie = s.ie ∧ (s.setRxRemaining n).ifg = s.ifg ∧ (s.setRxRemaining n).iv = s.iv ∧
    (s.setRxRemaining n).txbufFull = s.txbufFull ∧ (s.setRxRemaining n).bus = s.bus ∧
    (s.setRxRemaining n).rxSrc = s.rxSrc ∧ (s.setRxRemaining n).txLog = s.txLog ∧
    (s.setRxRemaining n).wakeCount = s.wakeCount ∧ (s.setRxRemaining n).cmds = s.cmds ∧
    (s.setRxRemaining n).responses = s.responses ∧ (s.setRxRemaining n).woken = s.woken ∧
    (s.setRxRemaining n).sched = s.sched ∧ (s.setRxRemaining n).freeCount = s.freeCount := by
  repeat' constructor

/-- `setAddrByte` (R13). -/
@[simp] theorem State.setAddrByte_fields (s : State) (a : Byte) :
    (s.setAddrByte a).direction = s.direction ∧ (s.setAddrByte a).txRemaining = s.txRemaining ∧
    (s.setAddrByte a).rxRemaining = s.rxRemaining ∧ (s.setAddrByte a).addrByte = a ∧
    (s.setAddrByte a).dataByte = s.dataByte ∧ (s.setAddrByte a).rxCursor = s.rxCursor ∧
    (s.setAddrByte a).rxBuf = s.rxBuf ∧ (s.setAddrByte a).par = s.par ∧ (s.setAddrByte a).fg = s.fg ∧
    (s.setAddrByte a).lpm = s.lpm ∧ (s.setAddrByte a).gie = s.gie ∧ (s.setAddrByte a).status = s.status ∧
    (s.setAddrByte a).ctl = s.ctl ∧ (s.setAddrByte a).clkSrc = s.clkSrc ∧ (s.setAddrByte a).br = s.br ∧
    (s.setAddrByte a).sa = s.sa ∧ (s.setAddrByte a).txbuf = s.txbuf ∧ (s.setAddrByte a).rxbuf = s.rxbuf ∧
    (s.setAddrByte a).ie = s.ie ∧ (s.setAddrByte a).ifg = s.ifg ∧ (s.setAddrByte a).iv = s.iv ∧
    (s.setAddrByte a).txbufFull = s.txbufFull ∧ (s.setAddrByte a).bus = s.bus ∧ (s.setAddrByte a).rxSrc = s.rxSrc ∧
    (s.setAddrByte a).txLog = s.txLog ∧ (s.setAddrByte a).wakeCount = s.wakeCount ∧ (s.setAddrByte a).cmds = s.cmds ∧
    (s.setAddrByte a).responses = s.responses ∧ (s.setAddrByte a).woken = s.woken ∧
    (s.setAddrByte a).sched = s.sched ∧ (s.setAddrByte a).freeCount = s.freeCount := by
  repeat' constructor

/-- `setDataByte` (R14). -/
@[simp] theorem State.setDataByte_fields (s : State) (d : Byte) :
    (s.setDataByte d).direction = s.direction ∧ (s.setDataByte d).txRemaining = s.txRemaining ∧
    (s.setDataByte d).rxRemaining = s.rxRemaining ∧ (s.setDataByte d).addrByte = s.addrByte ∧
    (s.setDataByte d).dataByte = d ∧ (s.setDataByte d).rxCursor = s.rxCursor ∧ (s.setDataByte d).rxBuf = s.rxBuf ∧
    (s.setDataByte d).par = s.par ∧ (s.setDataByte d).fg = s.fg ∧ (s.setDataByte d).lpm = s.lpm ∧
    (s.setDataByte d).gie = s.gie ∧ (s.setDataByte d).status = s.status ∧ (s.setDataByte d).ctl = s.ctl ∧
    (s.setDataByte d).clkSrc = s.clkSrc ∧ (s.setDataByte d).br = s.br ∧ (s.setDataByte d).sa = s.sa ∧
    (s.setDataByte d).txbuf = s.txbuf ∧ (s.setDataByte d).rxbuf = s.rxbuf ∧ (s.setDataByte d).ie = s.ie ∧
    (s.setDataByte d).ifg = s.ifg ∧ (s.setDataByte d).iv = s.iv ∧ (s.setDataByte d).txbufFull = s.txbufFull ∧
    (s.setDataByte d).bus = s.bus ∧ (s.setDataByte d).rxSrc = s.rxSrc ∧ (s.setDataByte d).txLog = s.txLog ∧
    (s.setDataByte d).wakeCount = s.wakeCount ∧ (s.setDataByte d).cmds = s.cmds ∧
    (s.setDataByte d).responses = s.responses ∧ (s.setDataByte d).woken = s.woken ∧
    (s.setDataByte d).sched = s.sched ∧ (s.setDataByte d).freeCount = s.freeCount := by
  repeat' constructor

/-- `setCursor` (R15). -/
@[simp] theorem State.setCursor_fields (s : State) (c : Cursor) :
    (s.setCursor c).direction = s.direction ∧ (s.setCursor c).txRemaining = s.txRemaining ∧
    (s.setCursor c).rxRemaining = s.rxRemaining ∧ (s.setCursor c).addrByte = s.addrByte ∧
    (s.setCursor c).dataByte = s.dataByte ∧ (s.setCursor c).rxCursor = c ∧ (s.setCursor c).rxBuf = s.rxBuf ∧
    (s.setCursor c).par = s.par ∧ (s.setCursor c).fg = s.fg ∧ (s.setCursor c).lpm = s.lpm ∧
    (s.setCursor c).gie = s.gie ∧ (s.setCursor c).status = s.status ∧ (s.setCursor c).ctl = s.ctl ∧
    (s.setCursor c).clkSrc = s.clkSrc ∧ (s.setCursor c).br = s.br ∧ (s.setCursor c).sa = s.sa ∧
    (s.setCursor c).txbuf = s.txbuf ∧ (s.setCursor c).rxbuf = s.rxbuf ∧ (s.setCursor c).ie = s.ie ∧
    (s.setCursor c).ifg = s.ifg ∧ (s.setCursor c).iv = s.iv ∧ (s.setCursor c).txbufFull = s.txbufFull ∧
    (s.setCursor c).bus = s.bus ∧ (s.setCursor c).rxSrc = s.rxSrc ∧ (s.setCursor c).txLog = s.txLog ∧
    (s.setCursor c).wakeCount = s.wakeCount ∧ (s.setCursor c).cmds = s.cmds ∧
    (s.setCursor c).responses = s.responses ∧ (s.setCursor c).woken = s.woken ∧ (s.setCursor c).sched = s.sched ∧
    (s.setCursor c).freeCount = s.freeCount := by
  repeat' constructor

/-- `storeCell` (R41). -/
@[simp] theorem State.storeCell_fields (s : State) (v : Byte) :
    (s.storeCell v).direction = s.direction ∧ (s.storeCell v).txRemaining = s.txRemaining ∧
    (s.storeCell v).rxRemaining = s.rxRemaining ∧ (s.storeCell v).addrByte = s.addrByte ∧
    (s.storeCell v).dataByte = s.dataByte ∧ (s.storeCell v).rxCursor = s.rxCursor ∧
    (s.storeCell v).rxBuf = Memory.write s.rxBuf s.rxCursor.toNat v ∧ (s.storeCell v).par = s.par ∧
    (s.storeCell v).fg = s.fg ∧ (s.storeCell v).lpm = s.lpm ∧ (s.storeCell v).gie = s.gie ∧
    (s.storeCell v).status = s.status ∧ (s.storeCell v).ctl = s.ctl ∧ (s.storeCell v).clkSrc = s.clkSrc ∧
    (s.storeCell v).br = s.br ∧ (s.storeCell v).sa = s.sa ∧ (s.storeCell v).txbuf = s.txbuf ∧
    (s.storeCell v).rxbuf = s.rxbuf ∧ (s.storeCell v).ie = s.ie ∧ (s.storeCell v).ifg = s.ifg ∧
    (s.storeCell v).iv = s.iv ∧ (s.storeCell v).txbufFull = s.txbufFull ∧ (s.storeCell v).bus = s.bus ∧
    (s.storeCell v).rxSrc = s.rxSrc ∧ (s.storeCell v).txLog = s.txLog ∧ (s.storeCell v).wakeCount = s.wakeCount ∧
    (s.storeCell v).cmds = s.cmds ∧ (s.storeCell v).responses = s.responses ∧ (s.storeCell v).woken = s.woken ∧
    (s.storeCell v).sched = s.sched ∧ (s.storeCell v).freeCount = s.freeCount := by
  repeat' constructor

/-- `countFree` (R93). -/
@[simp] theorem State.countFree_fields (s : State) :
    (s.countFree).direction = s.direction ∧ (s.countFree).txRemaining = s.txRemaining ∧
    (s.countFree).rxRemaining = s.rxRemaining ∧ (s.countFree).addrByte = s.addrByte ∧
    (s.countFree).dataByte = s.dataByte ∧ (s.countFree).rxCursor = s.rxCursor ∧ (s.countFree).rxBuf = s.rxBuf ∧
    (s.countFree).par = s.par ∧ (s.countFree).fg = s.fg ∧ (s.countFree).lpm = s.lpm ∧ (s.countFree).gie = s.gie ∧
    (s.countFree).status = s.status ∧ (s.countFree).ctl = s.ctl ∧ (s.countFree).clkSrc = s.clkSrc ∧
    (s.countFree).br = s.br ∧ (s.countFree).sa = s.sa ∧ (s.countFree).txbuf = s.txbuf ∧
    (s.countFree).rxbuf = s.rxbuf ∧ (s.countFree).ie = s.ie ∧ (s.countFree).ifg = s.ifg ∧ (s.countFree).iv = s.iv ∧
    (s.countFree).txbufFull = s.txbufFull ∧ (s.countFree).bus = s.bus ∧ (s.countFree).rxSrc = s.rxSrc ∧
    (s.countFree).txLog = s.txLog ∧ (s.countFree).wakeCount = s.wakeCount ∧ (s.countFree).cmds = s.cmds ∧
    (s.countFree).responses = s.responses ∧ (s.countFree).woken = s.woken ∧ (s.countFree).sched = s.sched ∧
    (s.countFree).freeCount = s.freeCount + 1 := by
  repeat' constructor

/-- `pushCmd` (R38). -/
@[simp] theorem State.pushCmd_fields (s : State) (w : CmdWord) :
    (s.pushCmd w).direction = s.direction ∧ (s.pushCmd w).txRemaining = s.txRemaining ∧
    (s.pushCmd w).rxRemaining = s.rxRemaining ∧ (s.pushCmd w).addrByte = s.addrByte ∧
    (s.pushCmd w).dataByte = s.dataByte ∧ (s.pushCmd w).rxCursor = s.rxCursor ∧ (s.pushCmd w).rxBuf = s.rxBuf ∧
    (s.pushCmd w).par = s.par ∧ (s.pushCmd w).fg = s.fg ∧ (s.pushCmd w).lpm = s.lpm ∧ (s.pushCmd w).gie = s.gie ∧
    (s.pushCmd w).status = s.status ∧ (s.pushCmd w).ctl = s.ctl ∧ (s.pushCmd w).clkSrc = s.clkSrc ∧
    (s.pushCmd w).br = s.br ∧ (s.pushCmd w).sa = s.sa ∧ (s.pushCmd w).txbuf = s.txbuf ∧
    (s.pushCmd w).rxbuf = s.rxbuf ∧ (s.pushCmd w).ie = s.ie ∧ (s.pushCmd w).ifg = s.ifg ∧ (s.pushCmd w).iv = s.iv ∧
    (s.pushCmd w).txbufFull = s.txbufFull ∧ (s.pushCmd w).bus = s.bus ∧ (s.pushCmd w).rxSrc = s.rxSrc ∧
    (s.pushCmd w).txLog = s.txLog ∧ (s.pushCmd w).wakeCount = s.wakeCount ∧ (s.pushCmd w).cmds = s.cmds ++ [w] ∧
    (s.pushCmd w).responses = s.responses ∧ (s.pushCmd w).woken = s.woken ∧ (s.pushCmd w).sched = s.sched ∧
    (s.pushCmd w).freeCount = s.freeCount := by
  repeat' constructor

/-- `popCmd` (R38). -/
@[simp] theorem State.popCmd_fields (s : State) :
    (s.popCmd).direction = s.direction ∧ (s.popCmd).txRemaining = s.txRemaining ∧
    (s.popCmd).rxRemaining = s.rxRemaining ∧ (s.popCmd).addrByte = s.addrByte ∧ (s.popCmd).dataByte = s.dataByte ∧
    (s.popCmd).rxCursor = s.rxCursor ∧ (s.popCmd).rxBuf = s.rxBuf ∧ (s.popCmd).par = s.par ∧ (s.popCmd).fg = s.fg ∧
    (s.popCmd).lpm = s.lpm ∧ (s.popCmd).gie = s.gie ∧ (s.popCmd).status = s.status ∧ (s.popCmd).ctl = s.ctl ∧
    (s.popCmd).clkSrc = s.clkSrc ∧ (s.popCmd).br = s.br ∧ (s.popCmd).sa = s.sa ∧ (s.popCmd).txbuf = s.txbuf ∧
    (s.popCmd).rxbuf = s.rxbuf ∧ (s.popCmd).ie = s.ie ∧ (s.popCmd).ifg = s.ifg ∧ (s.popCmd).iv = s.iv ∧
    (s.popCmd).txbufFull = s.txbufFull ∧ (s.popCmd).bus = s.bus ∧ (s.popCmd).rxSrc = s.rxSrc ∧
    (s.popCmd).txLog = s.txLog ∧ (s.popCmd).wakeCount = s.wakeCount ∧ (s.popCmd).cmds = s.cmds.tail ∧
    (s.popCmd).responses = s.responses ∧ (s.popCmd).woken = s.woken ∧ (s.popCmd).sched = s.sched ∧
    (s.popCmd).freeCount = s.freeCount := by
  repeat' constructor

/-- `deliver` (R141). -/
@[simp] theorem State.deliver_fields (s : State) (v : Byte) (rest : List Byte) :
    (s.deliver v rest).direction = s.direction ∧ (s.deliver v rest).txRemaining = s.txRemaining ∧
    (s.deliver v rest).rxRemaining = s.rxRemaining ∧ (s.deliver v rest).addrByte = s.addrByte ∧
    (s.deliver v rest).dataByte = s.dataByte ∧ (s.deliver v rest).rxCursor = s.rxCursor ∧
    (s.deliver v rest).rxBuf = s.rxBuf ∧ (s.deliver v rest).par = s.par ∧ (s.deliver v rest).fg = s.fg ∧
    (s.deliver v rest).lpm = s.lpm ∧ (s.deliver v rest).gie = s.gie ∧ (s.deliver v rest).status = s.status ∧
    (s.deliver v rest).ctl = s.ctl ∧ (s.deliver v rest).clkSrc = s.clkSrc ∧ (s.deliver v rest).br = s.br ∧
    (s.deliver v rest).sa = s.sa ∧ (s.deliver v rest).txbuf = s.txbuf ∧ (s.deliver v rest).rxbuf = v ∧
    (s.deliver v rest).ie = s.ie ∧ (s.deliver v rest).ifg = { s.ifg with rxFull := true } ∧
    (s.deliver v rest).iv = s.iv ∧ (s.deliver v rest).txbufFull = s.txbufFull ∧
    (s.deliver v rest).bus = (if s.ctl.txstp then .rxStopping else s.bus) ∧ (s.deliver v rest).rxSrc = rest ∧
    (s.deliver v rest).txLog = s.txLog ∧ (s.deliver v rest).wakeCount = s.wakeCount ∧
    (s.deliver v rest).cmds = s.cmds ∧ (s.deliver v rest).responses = s.responses ∧
    (s.deliver v rest).woken = s.woken ∧ (s.deliver v rest).sched = s.sched ∧
    (s.deliver v rest).freeCount = s.freeCount := by
  repeat' constructor

/-- `wake` (R172). -/
@[simp] theorem State.wake_fields (s : State) :
    (s.wake).direction = s.direction ∧ (s.wake).txRemaining = s.txRemaining ∧ (s.wake).rxRemaining = s.rxRemaining ∧
    (s.wake).addrByte = s.addrByte ∧ (s.wake).dataByte = s.dataByte ∧ (s.wake).rxCursor = s.rxCursor ∧
    (s.wake).rxBuf = s.rxBuf ∧ (s.wake).par = s.par ∧ (s.wake).fg = s.fg ∧ (s.wake).lpm = false ∧
    (s.wake).gie = s.gie ∧ (s.wake).status = s.status ∧ (s.wake).ctl = s.ctl ∧ (s.wake).clkSrc = s.clkSrc ∧
    (s.wake).br = s.br ∧ (s.wake).sa = s.sa ∧ (s.wake).txbuf = s.txbuf ∧ (s.wake).rxbuf = s.rxbuf ∧
    (s.wake).ie = s.ie ∧ (s.wake).ifg = s.ifg ∧ (s.wake).iv = s.iv ∧ (s.wake).txbufFull = s.txbufFull ∧
    (s.wake).bus = s.bus ∧ (s.wake).rxSrc = s.rxSrc ∧ (s.wake).txLog = s.txLog ∧
    (s.wake).wakeCount = (if s.lpm then s.wakeCount + 1 else s.wakeCount) ∧ (s.wake).cmds = s.cmds ∧
    (s.wake).responses = s.responses ∧ (s.wake).woken = s.woken ∧ (s.wake).sched = s.sched ∧
    (s.wake).freeCount = s.freeCount := by
  unfold State.wake; split <;> simp_all

/-- `clearStatus` (R163). -/
@[simp] theorem State.clearStatus_fields (s : State) :
    (s.clearStatus).direction = s.direction ∧ (s.clearStatus).txRemaining = s.txRemaining ∧
    (s.clearStatus).rxRemaining = s.rxRemaining ∧ (s.clearStatus).addrByte = s.addrByte ∧
    (s.clearStatus).dataByte = s.dataByte ∧ (s.clearStatus).rxCursor = s.rxCursor ∧ (s.clearStatus).rxBuf = s.rxBuf ∧
    (s.clearStatus).par = s.par ∧ (s.clearStatus).fg = s.fg ∧ (s.clearStatus).lpm = s.lpm ∧
    (s.clearStatus).gie = s.gie ∧ (s.clearStatus).status = (if s.surface then Status.ok else s.status) ∧
    (s.clearStatus).ctl = s.ctl ∧ (s.clearStatus).clkSrc = s.clkSrc ∧ (s.clearStatus).br = s.br ∧
    (s.clearStatus).sa = s.sa ∧ (s.clearStatus).txbuf = s.txbuf ∧ (s.clearStatus).rxbuf = s.rxbuf ∧
    (s.clearStatus).ie = s.ie ∧ (s.clearStatus).ifg = s.ifg ∧ (s.clearStatus).iv = s.iv ∧
    (s.clearStatus).txbufFull = s.txbufFull ∧ (s.clearStatus).bus = s.bus ∧ (s.clearStatus).rxSrc = s.rxSrc ∧
    (s.clearStatus).txLog = s.txLog ∧ (s.clearStatus).wakeCount = s.wakeCount ∧ (s.clearStatus).cmds = s.cmds ∧
    (s.clearStatus).responses = s.responses ∧ (s.clearStatus).woken = s.woken ∧ (s.clearStatus).sched = s.sched ∧
    (s.clearStatus).freeCount = s.freeCount := by
  unfold State.clearStatus; split <;> simp_all

/-- `clearTrIfRead` (R96). -/
@[simp] theorem State.clearTrIfRead_fields (s : State) :
    (s.clearTrIfRead).direction = s.direction ∧ (s.clearTrIfRead).txRemaining = s.txRemaining ∧
    (s.clearTrIfRead).rxRemaining = s.rxRemaining ∧ (s.clearTrIfRead).addrByte = s.addrByte ∧
    (s.clearTrIfRead).dataByte = s.dataByte ∧ (s.clearTrIfRead).rxCursor = s.rxCursor ∧
    (s.clearTrIfRead).rxBuf = s.rxBuf ∧ (s.clearTrIfRead).par = s.par ∧ (s.clearTrIfRead).fg = s.fg ∧
    (s.clearTrIfRead).lpm = s.lpm ∧ (s.clearTrIfRead).gie = s.gie ∧ (s.clearTrIfRead).status = s.status ∧
    (s.clearTrIfRead).ctl = { s.ctl with tr := s.ctl.tr && decide (s.direction = .write) } ∧
    (s.clearTrIfRead).clkSrc = s.clkSrc ∧ (s.clearTrIfRead).br = s.br ∧ (s.clearTrIfRead).sa = s.sa ∧
    (s.clearTrIfRead).txbuf = s.txbuf ∧ (s.clearTrIfRead).rxbuf = s.rxbuf ∧ (s.clearTrIfRead).ie = s.ie ∧
    (s.clearTrIfRead).ifg = s.ifg ∧ (s.clearTrIfRead).iv = s.iv ∧ (s.clearTrIfRead).txbufFull = s.txbufFull ∧
    (s.clearTrIfRead).bus = s.bus ∧ (s.clearTrIfRead).rxSrc = s.rxSrc ∧ (s.clearTrIfRead).txLog = s.txLog ∧
    (s.clearTrIfRead).wakeCount = s.wakeCount ∧ (s.clearTrIfRead).cmds = s.cmds ∧
    (s.clearTrIfRead).responses = s.responses ∧ (s.clearTrIfRead).woken = s.woken ∧
    (s.clearTrIfRead).sched = s.sched ∧ (s.clearTrIfRead).freeCount = s.freeCount := by
  unfold State.clearTrIfRead; split <;> simp_all

/-- `finishCount` (R93). -/
@[simp] theorem State.finishCount_fields (s : State) :
    (s.finishCount).direction = s.direction ∧ (s.finishCount).txRemaining = s.txRemaining ∧
    (s.finishCount).rxRemaining = (if s.rxRemaining = 1 then 0 else Config.freeCounter s.freeCount) ∧
    (s.finishCount).addrByte = s.addrByte ∧ (s.finishCount).dataByte = s.dataByte ∧
    (s.finishCount).rxCursor = s.rxCursor ∧ (s.finishCount).rxBuf = s.rxBuf ∧ (s.finishCount).par = s.par ∧
    (s.finishCount).fg = s.fg ∧ (s.finishCount).lpm = s.lpm ∧ (s.finishCount).gie = s.gie ∧
    (s.finishCount).status = s.status ∧ (s.finishCount).ctl = s.ctl ∧ (s.finishCount).clkSrc = s.clkSrc ∧
    (s.finishCount).br = s.br ∧ (s.finishCount).sa = s.sa ∧ (s.finishCount).txbuf = s.txbuf ∧
    (s.finishCount).rxbuf = s.rxbuf ∧ (s.finishCount).ie = s.ie ∧ (s.finishCount).ifg = s.ifg ∧
    (s.finishCount).iv = s.iv ∧ (s.finishCount).txbufFull = s.txbufFull ∧ (s.finishCount).bus = s.bus ∧
    (s.finishCount).rxSrc = s.rxSrc ∧ (s.finishCount).txLog = s.txLog ∧ (s.finishCount).wakeCount = s.wakeCount ∧
    (s.finishCount).cmds = s.cmds ∧ (s.finishCount).responses = s.responses ∧ (s.finishCount).woken = s.woken ∧
    (s.finishCount).sched = s.sched ∧
    (s.finishCount).freeCount = (if s.rxRemaining = 1 then s.freeCount else s.freeCount + 1) := by
  unfold State.finishCount; split <;> simp_all

/-- `pStart` (R138). -/
@[simp] theorem State.pStart_fields (s : State) :
    (s.pStart).direction = s.direction ∧ (s.pStart).txRemaining = s.txRemaining ∧
    (s.pStart).rxRemaining = s.rxRemaining ∧ (s.pStart).addrByte = s.addrByte ∧ (s.pStart).dataByte = s.dataByte ∧
    (s.pStart).rxCursor = s.rxCursor ∧ (s.pStart).rxBuf = s.rxBuf ∧ (s.pStart).par = s.par ∧ (s.pStart).fg = s.fg ∧
    (s.pStart).lpm = s.lpm ∧ (s.pStart).gie = s.gie ∧ (s.pStart).status = s.status ∧
    (s.pStart).ctl = { s.ctl with txstt := false } ∧ (s.pStart).clkSrc = s.clkSrc ∧ (s.pStart).br = s.br ∧
    (s.pStart).sa = s.sa ∧ (s.pStart).txbuf = s.txbuf ∧ (s.pStart).rxbuf = s.rxbuf ∧ (s.pStart).ie = s.ie ∧
    (s.pStart).ifg = { s.ifg with txEmpty := s.ctl.tr || s.ifg.txEmpty } ∧ (s.pStart).iv = s.iv ∧
    (s.pStart).txbufFull = s.txbufFull ∧ (s.pStart).bus = (if s.ctl.tr then .txActive else .rxActive) ∧
    (s.pStart).rxSrc = s.rxSrc ∧ (s.pStart).txLog = s.txLog ++ [if s.ctl.tr then .startW else .startR] ∧
    (s.pStart).wakeCount = s.wakeCount ∧ (s.pStart).cmds = s.cmds ∧ (s.pStart).responses = s.responses ∧
    (s.pStart).woken = s.woken ∧ (s.pStart).sched = s.sched ∧ (s.pStart).freeCount = s.freeCount := by
  unfold State.pStart; split <;> simp_all

/-- `noteWake` (R37). -/
@[simp] theorem State.noteWake_fields (s : State) (i : Instr) :
    (s.noteWake i).direction = s.direction ∧ (s.noteWake i).txRemaining = s.txRemaining ∧
    (s.noteWake i).rxRemaining = s.rxRemaining ∧ (s.noteWake i).addrByte = s.addrByte ∧
    (s.noteWake i).dataByte = s.dataByte ∧ (s.noteWake i).rxCursor = s.rxCursor ∧ (s.noteWake i).rxBuf = s.rxBuf ∧
    (s.noteWake i).par = s.par ∧ (s.noteWake i).fg = s.fg ∧ (s.noteWake i).lpm = s.lpm ∧ (s.noteWake i).gie = s.gie ∧
    (s.noteWake i).status = s.status ∧ (s.noteWake i).ctl = s.ctl ∧ (s.noteWake i).clkSrc = s.clkSrc ∧
    (s.noteWake i).br = s.br ∧ (s.noteWake i).sa = s.sa ∧ (s.noteWake i).txbuf = s.txbuf ∧
    (s.noteWake i).rxbuf = s.rxbuf ∧ (s.noteWake i).ie = s.ie ∧ (s.noteWake i).ifg = s.ifg ∧
    (s.noteWake i).iv = s.iv ∧ (s.noteWake i).txbufFull = s.txbufFull ∧ (s.noteWake i).bus = s.bus ∧
    (s.noteWake i).rxSrc = s.rxSrc ∧ (s.noteWake i).txLog = s.txLog ∧ (s.noteWake i).wakeCount = s.wakeCount ∧
    (s.noteWake i).cmds = s.cmds ∧ (s.noteWake i).responses = s.responses ∧ (s.noteWake i).sched = s.sched ∧
    (s.noteWake i).freeCount = s.freeCount := by
  cases i <;> simp [State.noteWake]

/-- `takeTurn` (R3). -/
@[simp] theorem State.takeTurn_fields (s : State) :
    (s.takeTurn).direction = s.direction ∧ (s.takeTurn).txRemaining = s.txRemaining ∧
    (s.takeTurn).rxRemaining = s.rxRemaining ∧ (s.takeTurn).addrByte = s.addrByte ∧
    (s.takeTurn).dataByte = s.dataByte ∧ (s.takeTurn).rxCursor = s.rxCursor ∧ (s.takeTurn).rxBuf = s.rxBuf ∧
    (s.takeTurn).par = s.par ∧ (s.takeTurn).fg = s.fg ∧ (s.takeTurn).lpm = s.lpm ∧ (s.takeTurn).gie = s.gie ∧
    (s.takeTurn).status = s.status ∧ (s.takeTurn).ctl = s.ctl ∧ (s.takeTurn).clkSrc = s.clkSrc ∧
    (s.takeTurn).br = s.br ∧ (s.takeTurn).sa = s.sa ∧ (s.takeTurn).txbuf = s.txbuf ∧ (s.takeTurn).rxbuf = s.rxbuf ∧
    (s.takeTurn).ie = s.ie ∧ (s.takeTurn).ifg = s.ifg ∧ (s.takeTurn).iv = s.iv ∧
    (s.takeTurn).txbufFull = s.txbufFull ∧ (s.takeTurn).bus = s.bus ∧ (s.takeTurn).rxSrc = s.rxSrc ∧
    (s.takeTurn).txLog = s.txLog ∧ (s.takeTurn).wakeCount = s.wakeCount ∧ (s.takeTurn).cmds = s.cmds ∧
    (s.takeTurn).responses = s.responses ∧ (s.takeTurn).woken = s.woken ∧ (s.takeTurn).sched = s.sched.tail ∧
    (s.takeTurn).freeCount = (if s.sched = [] then s.freeCount + 1 else s.freeCount) := by
  unfold State.takeTurn; split <;> simp_all

end Sys2Proof.Machine
end

