-- ==== Sys2Proof/Laws/Ops.lean ====
section
/-! SUPPORT. Laws/Ops.lean: what each shared operation can do, said once. -/

namespace Sys2Proof.Machine

/-! ### Sequencing -/

@[simp] theorem andThen_next (s : State) (k : State → Result) : andThen (.next s) k = k s := rfl

@[simp] theorem andThen_fault (f : Fault) (k : State → Result) : andThen (.fault f) k = .fault f := rfl

@[simp] theorem andThen_refused (x : Refusal) (k : State → Result) : andThen (.refused x) k = .refused x := rfl

/-- A sequence ends in a next state only through a next state of its first part. -/
theorem andThen_eq_next (r : Result) (k : State → Result) (t : State) :
    andThen r k = .next t ↔ ∃ u, r = .next u ∧ k u = .next t := by
  cases r <;> simp

/-! ### The receive store -/

/-- `RxStore` stores at `rx_cursor`, or faults at the cursor 3 and nowhere else (R41). -/
theorem State.rxStore_cases (s : State) (v : Byte) :
    (s.rxCursor ≠ 3 ∧ s.rxStore v = .next (s.storeCell v)) ∨
    (s.rxCursor = 3 ∧ s.rxStore v = .fault (.rxOverrun 3)) := by
  have key : Config.rxCells ≤ s.rxCursor.toNat ↔ s.rxCursor = 3 := by
    generalize s.rxCursor = x
    revert x
    decide
  by_cases h : s.rxCursor = 3
  · right
    refine ⟨h, ?_⟩
    simp [State.rxStore, h]
  · left
    refine ⟨h, ?_⟩
    simp only [State.rxStore]
    rw [if_neg (mt key.mp h)]

/-- The read of `RXBUF` and the store of its byte (R91 to R93). -/
theorem State.receiveByte_cases (s : State) :
    (s.rxCursor ≠ 3 ∧ s.receiveByte = .next (s.readRxbuf.storeCell s.rxbuf)) ∨
    (s.rxCursor = 3 ∧ s.receiveByte = .fault (.rxOverrun 3)) := by
  rcases State.rxStore_cases s.readRxbuf s.rxbuf with ⟨h, e⟩ | ⟨h, e⟩
  · exact .inl ⟨h, e⟩
  · exact .inr ⟨h, e⟩

@[simp] theorem State.advanceCursor_eq (s : State) : s.advanceCursor = s.setCursor (s.rxCursor + 1) := rfl

/-! ### The wait flag -/

/-- `wake()` clears `lpm` and counts, or, with `lpm = 0`, changes nothing (R172). -/
theorem State.wake_cases (s : State) :
    (s.lpm = true ∧ s.wake = { s with lpm := false, wakeCount := s.wakeCount + 1 }) ∨ (s.lpm = false ∧ s.wake = s) := by
  unfold State.wake
  cases h : s.lpm <;> simp

/-- `wake()` as one update (R172). -/
theorem State.wake_eq (s : State) :
    s.wake = { s with lpm := false, wakeCount := if s.lpm then s.wakeCount + 1 else s.wakeCount } := by
  unfold State.wake
  cases s
  split <;> simp_all

/-! ### The response port -/

@[simp] theorem State.respondWritten_eq (s : State) : s.respondWritten = s.respond (.written s.respStatus) := rfl

@[simp] theorem State.respondBytes_eq (s : State) :
    s.respondBytes = s.respond (.bytes (s.cell 0) (s.cell 1) (s.cell 2) s.respStatus) := rfl

/-! ### The status vector -/

theorem pickCode_nil (n : Nat) : pickCode [] n = Ev.none := by simp [pickCode]

/-- A pick from a list that is not empty is an element of it. -/
theorem pickCode_mem (l : List EventCode) (n : Nat) (h : l ≠ []) : pickCode l n ∈ l := by
  have hl : 0 < l.length := List.length_pos_of_ne_nil h
  have hn : n % l.length < l.length := Nat.mod_lt n hl
  simp only [pickCode, List.getElem?_eq_getElem hn, Option.getD_some]
  exact List.getElem_mem hn

/-- Every element of a list can be picked: no order of the causes is fixed (R170). -/
theorem pickCode_surjective (l : List EventCode) (c : EventCode) (h : c ∈ l) : ∃ n, pickCode l n = c := by
  obtain ⟨n, hn, e⟩ := List.getElem_of_mem h
  exact ⟨n, by simp [pickCode, Nat.mod_eq_of_lt hn, List.getElem?_eq_getElem hn, e]⟩

/-- The list of codes and the bits say the same. -/
theorem EventBits.mem_codes (b : EventBits) (c : EventCode) : c ∈ b.codes ↔ b.has c = true := by
  obtain ⟨b1, b2, b3, b4, b5, b6⟩ := b
  revert c
  cases b1 <;> cases b2 <;> cases b3 <;> cases b4 <;> cases b5 <;> cases b6 <;> decide

@[simp] theorem State.pending_latchIv (s : State) (n : Nat) : (s.latchIv n).pending = s.pending := rfl

/-- Once latched, `IV` is as R33 says. -/
theorem State.ivConsistent_latchIv (s : State) (n : Nat) : (s.latchIv n).ivConsistent = true := by
  have hp : (s.latchIv n).pending = s.pending := rfl
  by_cases h : s.pending.codes = []
  · simp [State.ivConsistent, State.causePending, hp, h, pickCode_nil]
  · have hm : (s.latchIv n).iv ∈ s.pending.codes := by simpa using pickCode_mem _ n h
    have := (EventBits.mem_codes _ _).mp hm
    simp only [State.ivConsistent, hp, this, Bool.true_or]

/-- A vector that R33 allows reports a cause that is pending, or none. -/
theorem State.iv_of_ivConsistent (s : State) (h : s.ivConsistent = true) :
    s.pending.has s.iv = true ∨ (s.iv = Ev.none ∧ s.causePending = false) := by
  simpa [State.ivConsistent] using h

/-- `IV` reports a data class only while its flag is set (R33). -/
theorem State.data_flag_of_iv (s : State) (h : s.ivConsistent = true) :
    (s.iv = Ev.rxFull → s.ifg.rxFull = true) ∧ (s.iv = Ev.txEmpty → s.ifg.txEmpty = true) := by
  rcases State.iv_of_ivConsistent s h with h | ⟨h, _⟩
  · constructor <;> intro e <;> rw [e] at h <;> simp [EventBits.has, State.pending, EventBits.both] at h <;> exact h.2
  · constructor <;> intro e <;> rw [e] at h <;> simp at h

/-- Raising or acknowledging an "other" cause leaves the data flags alone. -/
@[simp] theorem EventBits.setOther_data (b : EventBits) (e : OtherEvent) (v : Bool) :
    (b.setOther e v).rxFull = b.rxFull ∧ (b.setOther e v).txEmpty = b.txEmpty := by
  cases e <;> exact ⟨rfl, rfl⟩

end Sys2Proof.Machine
end

