-- ==== Sys2Proof/Laws/Exec.lean ====
section
/-! SUPPORT. Laws/Exec.lean: the meanings that branch, as equations over the named operations, one for each branch. -/

namespace Sys2Proof.Machine

/-! ### The policy conditions -/

theorem State.surface_of_ignore (s : State) (h : s.par.nackPolicy = .ignore) : s.surface = false := by
  simp [State.surface, h]

theorem State.aborted_of_ignore (s : State) (h : s.par.nackPolicy = .ignore) : s.aborted = false := by
  simp [State.aborted, State.surface_of_ignore s h]

theorem State.surfacesError_of_ignore (s : State) (h : s.par.nackPolicy = .ignore) : s.surfacesError = false := by
  simp [State.surfacesError, State.surface_of_ignore s h]

theorem State.statusReserved_of_ignore (s : State) (h : s.par.nackPolicy = .ignore) : s.statusReserved = false := by
  simp [State.statusReserved, State.surface_of_ignore s h]

/-! ### Receive tiers -/

theorem execRxCont_aborted (s : State) (h : s.aborted = true) : execRxCont s = .next s.readRxbuf := by
  simp [execRxCont, h, State.discardRx]

theorem execRxPenult_aborted (s : State) (h : s.aborted = true) : execRxPenult s = .next s.readRxbuf := by
  simp [execRxPenult, h, State.discardRx]

theorem execRxLast_aborted (s : State) (h : s.aborted = true) : execRxLast s = .next s.readRxbuf := by
  simp [execRxLast, h, State.discardRx]

theorem execRxCont_stores (s : State) (h : s.aborted = false) (k : s.rxCursor ≠ 3) :
    execRxCont s =
      .next (((s.setRxRemaining (s.rxRemaining - 1)).readRxbuf.storeCell s.rxbuf).setCursor (s.rxCursor + 1)) := by
  rcases State.receiveByte_cases (s.setRxRemaining (s.rxRemaining - 1)) with ⟨_, e⟩ | ⟨k', e⟩
  · simp only [execRxCont, h, e]; rfl
  · exact absurd k' k

theorem execRxPenult_stores (s : State) (h : s.aborted = false) (k : s.rxCursor ≠ 3) :
    execRxPenult s = .next
      (((s.setRxRemaining (s.rxRemaining - 1)).readRxbuf.storeCell s.rxbuf).setCursor (s.rxCursor + 1)).issueStop := by
  rcases State.receiveByte_cases (s.setRxRemaining (s.rxRemaining - 1)) with ⟨_, e⟩ | ⟨k', e⟩
  · simp only [execRxPenult, h, e]; rfl
  · exact absurd k' k

theorem execRxLast_stores (s : State) (h : s.aborted = false) (k : s.rxCursor ≠ 3) :
    execRxLast s = .next (s.readRxbuf.storeCell s.rxbuf).finishCount.wake := by
  rcases State.receiveByte_cases s with ⟨_, e⟩ | ⟨k', e⟩
  · simp only [execRxLast, h, e]; rfl
  · exact absurd k' k

theorem execRx_overrun (s : State) (h : s.aborted = false) (k : s.rxCursor = 3) :
    execRxCont s = .fault (.rxOverrun 3) ∧ execRxPenult s = .fault (.rxOverrun 3) ∧
    execRxLast s = .fault (.rxOverrun 3) := by
  have hb (u : State) (hu : u.rxCursor = 3) : u.receiveByte = .fault (.rxOverrun 3) := by
    rcases State.receiveByte_cases u with ⟨k', _⟩ | ⟨_, e⟩
    · exact absurd hu k'
    · exact e
  have h1 := hb (s.setRxRemaining (s.rxRemaining - 1)) k
  have h2 := hb s k
  refine ⟨?_, ?_, ?_⟩
  · simp only [execRxCont, h, h1]; rfl
  · simp only [execRxPenult, h, h1]; rfl
  · simp only [execRxLast, h, h2]; rfl

/-! ### Transmit tiers -/

theorem execTxAddr_aborted (s : State) (h : s.aborted = true) : execTxAddr s = .next s.clearTxifg := by
  simp [execTxAddr, h, State.discardTx]

theorem execTxData_aborted (s : State) (h : s.aborted = true) : execTxData s = .next s.clearTxifg := by
  simp [execTxData, h, State.discardTx]

theorem execTxDone_aborted (s : State) (h : s.aborted = true) : execTxDone s = .next s.clearTxifg := by
  simp [execTxDone, h, State.discardTx]

theorem execTxAddr_sends (s : State) (h : s.aborted = false) :
    execTxAddr s = .next ((s.writeTxbuf s.addrByte).setTxRemaining (s.txRemaining - 1)) := by
  simp [execTxAddr, h]

theorem execTxData_sends (s : State) (h : s.aborted = false) :
    execTxData s = .next ((s.writeTxbuf s.dataByte).setTxRemaining 0) := by
  simp [execTxData, h]

theorem execTxDone_stops (s : State) (h : s.aborted = false) :
    execTxDone s = .next s.issueStop.clearTxifg.clearTrIfRead.wake := by
  simp [execTxDone, h]

/-! ### Foreground -/

/-- `*_POLL` writes `fg` and nothing else. -/
theorem State.poll_eq (s : State) (self succ : FgCode) :
    s.poll self succ = .next (s.goto (if s.ctl.txstp then self else succ)) := by
  unfold State.poll State.stopPending
  split <;> rfl

theorem execR1Settle_ok (s : State) (h : s.aborted = false) : execR1Settle s = .next (s.goto Fg.r2Init) := by
  simp [execR1Settle, h]

theorem execR1Settle_aborted (s : State) (h : s.aborted = true) :
    execR1Settle s = .next (s.respondBytes.goto Fg.idle) := by
  simp [execR1Settle, h]

/-! ### All outcomes -/

/-- What the handler rule that `IV` and the counters select can do, when it goes on. -/
theorem exec_event_cases (s v : State) (h : exec (decodeEvent s.iv s.txRemaining s.rxRemaining) s = .next v) :
    (s.iv = Ev.rxFull ∧ s.aborted = true ∧ v = s.readRxbuf) ∨
    (s.iv = Ev.rxFull ∧ s.aborted = false ∧ s.rxCursor ≠ 3 ∧
      ((2 < s.rxRemaining ∧
        v = ((s.setRxRemaining (s.rxRemaining - 1)).readRxbuf.storeCell s.rxbuf).setCursor (s.rxCursor + 1)) ∨
       (s.rxRemaining = 2 ∧ v =
        (((s.setRxRemaining (s.rxRemaining - 1)).readRxbuf.storeCell s.rxbuf).setCursor (s.rxCursor + 1)).issueStop) ∨
       (s.rxRemaining ≤ 1 ∧ v = (s.readRxbuf.storeCell s.rxbuf).finishCount.wake))) ∨
    (s.iv = Ev.txEmpty ∧ s.aborted = true ∧ v = s.clearTxifg) ∨
    (s.iv = Ev.txEmpty ∧ s.aborted = false ∧
      ((1 < s.txRemaining ∧ v = (s.writeTxbuf s.addrByte).setTxRemaining (s.txRemaining - 1)) ∨
       (s.txRemaining = 1 ∧ v = (s.writeTxbuf s.dataByte).setTxRemaining 0) ∨
       (s.txRemaining = 0 ∧ v = s.issueStop.clearTxifg.clearTrIfRead.wake))) ∨
    (s.iv = Ev.arbLost ∧
      ((s.surfacesError = true ∧ v = ((s.ackOther .arbLost).setStatus Status.arbLost).wake) ∨
       (s.surfacesError = false ∧ v = s.ackOther .arbLost))) ∨
    (s.iv = Ev.nack ∧
      ((s.surfacesError = true ∧ v = ((s.ackOther .nack).setStatus Status.nack).issueStop.clearTxifg.wake) ∨
       (s.surfacesError = false ∧ v = s.ackOther .nack))) ∨
    (s.iv = Ev.start ∧ v = s.ackOther .start) ∨ (s.iv = Ev.stop ∧ v = s.ackOther .stop) ∨
    ((s.iv = Ev.none ∨ s.iv = Ev.reserved) ∧ v = s) := by
  rcases EventCode.cases s.iv with e | e | e | e | e | e | e | e <;> rw [e] at h
  · rw [decodeEvent_none] at h; cases h; simp [e]
  · rw [decodeEvent_arbLost] at h
    simp only [exec, execEvArbLost] at h
    split at h <;> cases h <;> simp_all
  · rw [decodeEvent_nack] at h
    simp only [exec, execEvNack] at h
    split at h <;> cases h <;> simp_all
  · rw [decodeEvent_start] at h; cases h; simp [e]
  · rw [decodeEvent_stop] at h; cases h; simp [e]
  · cases ha : s.aborted
    · by_cases hc : s.rxCursor = 3
      · obtain ⟨h1, h2, h3⟩ := execRx_overrun s ha hc
        rw [decodeEvent_rxFull] at h
        split at h
        · simp [exec, h1] at h
        · split at h
          · simp [exec, h2] at h
          · simp [exec, h3] at h
      · right; left
        refine ⟨e, rfl, hc, ?_⟩
        rw [decodeEvent_rxFull] at h
        split at h
        · next hr => simp only [exec, execRxCont_stores s ha hc] at h; cases h; exact .inl ⟨hr, rfl⟩
        · split at h
          · next hr => simp only [exec, execRxPenult_stores s ha hc] at h; cases h; exact .inr (.inl ⟨hr, rfl⟩)
          · have hr : s.rxRemaining ≤ 1 := by bv_omega
            simp only [exec, execRxLast_stores s ha hc] at h; cases h; exact .inr (.inr ⟨hr, rfl⟩)
    · rw [decodeEvent_rxFull] at h
      have : v = s.readRxbuf := by
        split at h
        · simp only [exec, execRxCont_aborted s ha] at h; cases h; rfl
        · split at h
          · simp only [exec, execRxPenult_aborted s ha] at h; cases h; rfl
          · simp only [exec, execRxLast_aborted s ha] at h; cases h; rfl
      simp [e, this]
  · cases ha : s.aborted
    · right; right; right; left
      refine ⟨e, rfl, ?_⟩
      rw [decodeEvent_txEmpty] at h
      split at h
      · next hr => simp only [exec, execTxAddr_sends s ha] at h; cases h; exact .inl ⟨hr, rfl⟩
      · split at h
        · next hr => simp only [exec, execTxData_sends s ha] at h; cases h; exact .inr (.inl ⟨hr, rfl⟩)
        · have hr : s.txRemaining = 0 := by bv_omega
          simp only [exec, execTxDone_stops s ha] at h; cases h; exact .inr (.inr ⟨hr, rfl⟩)
    · rw [decodeEvent_txEmpty] at h
      have : v = s.clearTxifg := by
        split at h
        · simp only [exec, execTxAddr_aborted s ha] at h; cases h; rfl
        · split at h
          · simp only [exec, execTxData_aborted s ha] at h; cases h; rfl
          · simp only [exec, execTxDone_aborted s ha] at h; cases h; rfl
      simp [e, this]
  · rw [decodeEvent_reserved] at h; cases h; simp [e]

/-- What the micro-operation in `fg` does, outside `IDLE`, when it goes on. -/
theorem exec_position_cases (s v : State) (hi : s.fg ≠ Fg.idle) (h : exec (decodePosition s.fg) s = .next v) :
    (s.fg = Fg.wPoll ∧ v = s.goto (if s.ctl.txstp then Fg.wPoll else Fg.wArm)) ∨
    (s.fg = Fg.wArm ∧ v = s.setTr.issueStart.goto Fg.wSleep) ∨
    (s.fg = Fg.wSleep ∧ v = s.sleep.goto Fg.wSettle) ∨
    (s.fg = Fg.wSettle ∧ v = s.respondWritten.goto Fg.idle) ∨
    (s.fg = Fg.r1Poll ∧ v = s.goto (if s.ctl.txstp then Fg.r1Poll else Fg.r1Arm)) ∨
    (s.fg = Fg.r1Arm ∧ v = s.setTr.issueStart.goto Fg.r1Sleep) ∨
    (s.fg = Fg.r1Sleep ∧ v = s.sleep.goto Fg.r1Settle) ∨
    (s.fg = Fg.r1Settle ∧ s.aborted = false ∧ v = s.goto Fg.r2Init) ∨
    (s.fg = Fg.r1Settle ∧ s.aborted = true ∧ v = s.respondBytes.goto Fg.idle) ∨
    (s.fg = Fg.r2Init ∧ v = (s.setRxRemaining Config.rxLen).goto Fg.r2Poll) ∨
    (s.fg = Fg.r2Poll ∧ v = s.goto (if s.ctl.txstp then Fg.r2Poll else Fg.r2Arm)) ∨
    (s.fg = Fg.r2Arm ∧ v = s.issueStart.goto Fg.r2Sleep) ∨
    (s.fg = Fg.r2Sleep ∧ v = s.sleep.goto Fg.r2Settle) ∨
    (s.fg = Fg.r2Settle ∧ v = s.respondBytes.goto Fg.idle) := by
  have hc : ∀ x : FgCode, x = Fg.idle ∨ x = Fg.wPoll ∨ x = Fg.wArm ∨ x = Fg.wSleep ∨ x = Fg.wSettle ∨ x = Fg.r1Poll ∨
      x = Fg.r1Arm ∨ x = Fg.r1Sleep ∨ x = Fg.r1Settle ∨ x = Fg.r2Init ∨ x = Fg.r2Poll ∨ x = Fg.r2Arm ∨
      x = Fg.r2Sleep ∨ x = Fg.r2Settle ∨ x = 14 ∨ x = 15 := by decide
  rcases hc s.fg with e | e | e | e | e | e | e | e | e | e | e | e | e | e | e | e <;> rw [e] at h
  · exact absurd e hi
  · have := (State.poll_eq s Fg.wPoll Fg.wArm).symm.trans h; cases this; simp [e]
  · cases h; simp [e]
  · cases h; simp [e]
  · cases h; simp [e]
  · have := (State.poll_eq s Fg.r1Poll Fg.r1Arm).symm.trans h; cases this; simp [e]
  · cases h; simp [e]
  · cases h; simp [e]
  · cases ha : s.aborted
    · have := (execR1Settle_ok s ha).symm.trans h; cases this; simp [e]
    · have := (execR1Settle_aborted s ha).symm.trans h; cases this; simp [e]
  · cases h; simp [e]
  · have := (State.poll_eq s Fg.r2Poll Fg.r2Arm).symm.trans h; cases this; simp [e]
  · cases h; simp [e]
  · cases h; simp [e]
  · cases h; simp [e]
  · cases h
  · cases h

end Sys2Proof.Machine
end

