-- ==== Sys2Proof/Laws/PerInstr.lean ====
section
/-! SUPPORT. Laws/PerInstr.lean: every operation's code has the width, match and mask of its row in
spec/opcode_table.json. -/

namespace Sys2Proof.Laws

/-- The code of `i` is one of the words of its row of the table. -/
def TableRow.Statement (i : Instr) : Prop :=
  codeWidth (encode i) = (tableRow i).width ∧ codeBits (encode i) &&& (tableRow i).mask = (tableRow i).pat

/-- The mask of the command rows picks out the bit `op` (R61). -/
theorem mkCmd_and_mask (op : BitVec 1) (a d : Byte) : (mkCmd op a d).toNat &&& 2 ^ 16 = op.toNat * 2 ^ 16 := by
  apply Nat.eq_of_testBit_eq
  intro i
  rw [Nat.testBit_and, BitVec.testBit_toNat, getLsbD_mkCmd, Nat.testBit_two_pow, Nat.testBit_mul_two_pow]
  by_cases hi : 16 = i
  · subst hi
    simp [BitVec.getLsbD]
  · by_cases h : 16 ≤ i
    · have h0 : op.toNat.testBit (i - 16) = false := by
        rw [BitVec.testBit_toNat]
        exact BitVec.getLsbD_of_ge op (i - 16) (by omega)
      simp [hi, h0]
    · simp [hi, h]

theorem TableRow.write (a d : Byte) : TableRow.Statement (.write a d) := ⟨rfl, mkCmd_and_mask 0 a d⟩

theorem TableRow.read (a : Byte) : TableRow.Statement (.read a) := ⟨rfl, mkCmd_and_mask 1 a 0⟩

theorem TableRow.rxCont : TableRow.Statement .rxCont := ⟨rfl, rfl⟩

theorem TableRow.rxPenult : TableRow.Statement .rxPenult := ⟨rfl, rfl⟩

theorem TableRow.rxLast : TableRow.Statement .rxLast := ⟨rfl, rfl⟩

theorem TableRow.txAddr : TableRow.Statement .txAddr := ⟨rfl, rfl⟩

theorem TableRow.txData : TableRow.Statement .txData := ⟨rfl, rfl⟩

theorem TableRow.txDone : TableRow.Statement .txDone := ⟨rfl, rfl⟩

theorem TableRow.evArbLost : TableRow.Statement .evArbLost := ⟨rfl, rfl⟩

theorem TableRow.evNack : TableRow.Statement .evNack := ⟨rfl, rfl⟩

theorem TableRow.evStart : TableRow.Statement .evStart := ⟨rfl, rfl⟩

theorem TableRow.evStop : TableRow.Statement .evStop := ⟨rfl, rfl⟩

theorem TableRow.evNone : TableRow.Statement .evNone := ⟨rfl, rfl⟩

theorem TableRow.evNoneReserved : TableRow.Statement .evNoneReserved := ⟨rfl, rfl⟩

theorem TableRow.idle : TableRow.Statement .idle := ⟨rfl, rfl⟩

theorem TableRow.wPoll : TableRow.Statement .wPoll := ⟨rfl, rfl⟩

theorem TableRow.wArm : TableRow.Statement .wArm := ⟨rfl, rfl⟩

theorem TableRow.wSleep : TableRow.Statement .wSleep := ⟨rfl, rfl⟩

theorem TableRow.wSettle : TableRow.Statement .wSettle := ⟨rfl, rfl⟩

theorem TableRow.r1Poll : TableRow.Statement .r1Poll := ⟨rfl, rfl⟩

theorem TableRow.r1Arm : TableRow.Statement .r1Arm := ⟨rfl, rfl⟩

theorem TableRow.r1Sleep : TableRow.Statement .r1Sleep := ⟨rfl, rfl⟩

theorem TableRow.r1Settle : TableRow.Statement .r1Settle := ⟨rfl, rfl⟩

theorem TableRow.r2Init : TableRow.Statement .r2Init := ⟨rfl, rfl⟩

theorem TableRow.r2Poll : TableRow.Statement .r2Poll := ⟨rfl, rfl⟩

theorem TableRow.r2Arm : TableRow.Statement .r2Arm := ⟨rfl, rfl⟩

theorem TableRow.r2Sleep : TableRow.Statement .r2Sleep := ⟨rfl, rfl⟩

theorem TableRow.r2Settle : TableRow.Statement .r2Settle := ⟨rfl, rfl⟩

theorem TableRow.fgReserved14 : TableRow.Statement .fgReserved14 := ⟨rfl, rfl⟩

theorem TableRow.fgReserved15 : TableRow.Statement .fgReserved15 := ⟨rfl, rfl⟩

end Sys2Proof.Laws
end

