-- ==== Sys2Proof/Laws/Step.lean ====
section
/-! SUPPORT. Laws/Step.lean: what one step can do, said once, and the small lemmas of a turn. -/

namespace Sys2Proof.Machine

/-- The end of a turn latches the status vector, and nothing else. -/
theorem State.endTurn_eq (s : State) (t : Turn) : s.endTurn t = s.latchIv t.ivPick := by
  unfold State.endTurn
  cases t.move <;> rfl

@[simp] theorem State.ivConsistent_endTurn (s : State) (t : Turn) : (s.endTurn t).ivConsistent = true := by
  rw [State.endTurn_eq]
  exact State.ivConsistent_latchIv s t.ivPick

/-- A command starts no transaction and completes none. -/
@[simp] theorem State.noteWake_command (s : State) (w : CmdWord) : s.noteWake (decodeCommand w) = s := by
  unfold decodeCommand
  split <;> rfl

/-- No handler rule but the completing tier of the transaction last armed changes the history, and none clears it. -/
theorem State.noteWake_event_woken (s : State) (c : EventCode) (tx rx : Counter) :
    (s.noteWake (decodeEvent c tx rx)).woken = (s.woken || (!s.aborted &&
      ((!s.inReceivePhase && decide (decodeEvent c tx rx = .txDone)) ||
       (s.inReceivePhase && decide (decodeEvent c tx rx = .rxLast))))) := by
  have h : ∀ c : EventCode, c = 0 ∨ c = 1 ∨ c = 2 ∨ c = 3 ∨ c = 4 ∨ c = 5 ∨ c = 6 ∨ c = 7 := by decide
  rcases h c with rfl | rfl | rfl | rfl | rfl | rfl | rfl | rfl <;>
    simp only [decodeEvent] <;> split_ifs <;> simp [State.noteWake]

/-- No micro-operation but an `*_ARM` changes the history, and an `*_ARM` clears it. -/
theorem State.noteWake_position_woken (s : State) (x : FgCode) :
    (s.noteWake (decodePosition x)).woken =
      (s.woken && !(decide (x = Fg.wArm) || decide (x = Fg.r1Arm) || decide (x = Fg.r2Arm))) := by
  have h : ∀ x : FgCode, decodePosition x = .wArm ∧ x = Fg.wArm ∨ decodePosition x = .r1Arm ∧ x = Fg.r1Arm ∨
      decodePosition x = .r2Arm ∧ x = Fg.r2Arm ∨
      ((decide (x = Fg.wArm) || decide (x = Fg.r1Arm) || decide (x = Fg.r2Arm)) = false ∧
        decodePosition x ∉ [Instr.wArm, .r1Arm, .r2Arm, .txDone, .rxLast]) := by decide
  rcases h x with ⟨e, rfl⟩ | ⟨e, rfl⟩ | ⟨e, rfl⟩ | ⟨e, k⟩
  · rw [e]; simp [State.noteWake]
  · rw [e]; simp [State.noteWake]
  · rw [e]; simp [State.noteWake]
  · rw [e]
    generalize decodePosition x = i at k ⊢
    cases i <;> simp_all [State.noteWake]

/-- The operation of a turn is the foreground's or the handler's. -/
theorem State.fetch_cases (s : State) (m : Move) (i : Instr) (t : State) (h : s.fetch m = some (i, t)) :
    (m = .foreground ∧ s.fetchForeground = some (i, t)) ∨
    (m = .interrupt ∧ s.interruptEnabled = true ∧ i = decodeEvent s.iv s.txRemaining s.rxRemaining ∧ t = s) := by
  cases m with
  | foreground => exact .inl ⟨rfl, h⟩
  | interrupt =>
    right
    simp only [State.fetch] at h
    split at h
    · next he =>
      simp only [State.takeInterrupt, Option.some.injEq, Prod.mk.injEq] at h
      exact ⟨rfl, he, h.1.symm, h.2.symm⟩
    · cases h
  | peripheral p => cases h
  | host w => cases h

/-- The foreground's operation: a command at the port of an idle, configured block; `IDLE` with an empty port; or the
micro-operation in `fg`. It runs only while `lpm = 0`. -/
theorem State.fetchForeground_cases (s : State) (i : Instr) (t : State) (h : s.fetchForeground = some (i, t)) :
    s.lpm = false ∧
    ((s.fg = Fg.idle ∧ s.ctl.swrst = false ∧
        ((s.cmds = [] ∧ i = .idle ∧ t = s) ∨
         ∃ w ws, s.cmds = w :: ws ∧ i = decodeCommand w ∧ t = s.popCmd)) ∨
     (s.fg ≠ Fg.idle ∧ s.returnHeld = false ∧ i = decodePosition s.fg ∧ t = s)) := by
  unfold State.fetchForeground at h
  split at h
  · cases h
  · next hl =>
    refine ⟨by simpa using hl, ?_⟩
    split at h
    · next hf =>
      left
      split at h
      · cases h
      · next hs =>
        refine ⟨hf, by simpa using hs, ?_⟩
        split at h
        · next hc => simp only [Option.some.injEq, Prod.mk.injEq] at h; exact .inl ⟨hc, h.1.symm, h.2.symm⟩
        · next w ws hc => simp only [Option.some.injEq, Prod.mk.injEq] at h; exact .inr ⟨w, ws, hc, h.1.symm, h.2.symm⟩
    · next hf =>
      right
      split at h
      · cases h
      · next hr => simp only [Option.some.injEq, Prod.mk.injEq] at h; exact ⟨hf, by simpa using hr, h.1.symm, h.2.symm⟩

/-- What a step that answers a next state has done: run the operation of the turn, or let the environment move. -/
theorem step_cases (s t : State) (h : step s = .next t) :
    (∃ i u v, s.takeTurn.fetch s.turn.move = some (i, u) ∧ exec i u = .next v ∧
      t = (v.noteWake i).endTurn s.turn) ∨
    (s.takeTurn.fetch s.turn.move = none ∧ t = (s.takeTurn.environment s.turn.move).endTurn s.turn) := by
  unfold step at h
  split at h
  · next hr =>
    exfalso
    have key : ∀ x : FgCode, fgReserved x = true → decodePosition x = .fgReserved14 ∨ decodePosition x = .fgReserved15 := by
      decide
    rcases key s.fg hr with e | e <;> rw [e] at h <;> cases h
  · split at h
    · cases h
    · split at h
      · next i u hf =>
        obtain ⟨v, hv, e⟩ := (andThen_eq_next _ _ _).mp h
        left
        exact ⟨i, u, v, hf, hv, by cases e; rfl⟩
      · next hf =>
        right
        exact ⟨hf, by cases h; rfl⟩

/-- The step of a turn that has an operation, from a state without a reserved code. -/
theorem step_of_fetch (s : State) (i : Instr) (u : State) (hr : fgReserved s.fg = false) (hs : s.statusReserved = false)
    (hf : s.takeTurn.fetch s.turn.move = some (i, u)) :
    step s = andThen (exec i u) fun v => .next ((v.noteWake i).endTurn s.turn) := by
  simp [step, hr, hs, hf]

/-- The step of a turn that has none. -/
theorem step_of_no_fetch (s : State) (hr : fgReserved s.fg = false) (hs : s.statusReserved = false)
    (hf : s.takeTurn.fetch s.turn.move = none) :
    step s = .next ((s.takeTurn.environment s.turn.move).endTurn s.turn) := by
  simp [step, hr, hs, hf]

/-- No operation is refused: a stop is a fault. -/
theorem exec_ne_refused (i : Instr) (s : State) (x : Refusal) : exec i s ≠ .refused x := by
  have hb (u : State) (k : State → State) : andThen u.receiveByte (fun t => .next (k t)) ≠ .refused x := by
    rcases State.receiveByte_cases u with ⟨_, e⟩ | ⟨_, e⟩ <;> rw [e] <;> simp
  cases i <;> simp only [exec] <;>
    first
    | (intro h; cases h)
    | (simp only [execRxCont, execRxPenult, execRxLast, State.discardRx]
       split
       · exact fun h => by cases h
       · exact hb _ _)
    | (simp only [execTxAddr, execTxData, execTxDone, State.discardTx, execEvArbLost, execEvNack, execR1Settle]
       split <;> exact fun h => by cases h)

/-- Everything one step can do, agent by agent, before the status vector is latched. -/
theorem step_outcomes (s t : State) (h : step s = .next t) :
    ∃ v, t = v.latchIv s.turn.ivPick ∧
    ((s.turn.move = .foreground ∧ s.lpm = false ∧ s.fg = Fg.idle ∧ s.ctl.swrst = false ∧
        ((s.cmds = [] ∧ v = s.takeTurn) ∨
         ∃ w ws, s.cmds = w :: ws ∧ exec (decodeCommand w) s.takeTurn.popCmd = .next v)) ∨
     (s.turn.move = .foreground ∧ s.lpm = false ∧ s.fg ≠ Fg.idle ∧ s.returnHeld = false ∧
        ∃ u, exec (decodePosition s.takeTurn.fg) s.takeTurn = .next u ∧ v = u.noteWake (decodePosition s.takeTurn.fg)) ∨
     (s.turn.move = .foreground ∧ s.bootDue = true ∧ v = s.takeTurn.bootConfig) ∨
     (s.turn.move = .foreground ∧ s.bootDue = false ∧ s.takeTurn.fetchForeground = none ∧ v = s.takeTurn) ∨
     (s.turn.move = .interrupt ∧ s.interruptEnabled = true ∧
        ∃ u, exec (decodeEvent s.takeTurn.iv s.takeTurn.txRemaining s.takeTurn.rxRemaining) s.takeTurn = .next u ∧
          v = u.noteWake (decodeEvent s.takeTurn.iv s.takeTurn.txRemaining s.takeTurn.rxRemaining)) ∨
     (s.turn.move = .interrupt ∧ s.interruptEnabled = false ∧ v = s.takeTurn) ∨
     (∃ p, s.turn.move = .peripheral p ∧ v = s.takeTurn.periphStep p) ∨
     (∃ w, s.turn.move = .host w ∧ v = s.takeTurn.pushCmd w)) := by
  have hie : s.takeTurn.interruptEnabled = s.interruptEnabled := by
    simp [State.interruptEnabled, State.causePending, State.pending, State.inArmWindow, State.dataEvent]
  have hbd : s.takeTurn.bootDue = s.bootDue := by simp [State.bootDue]
  have hrh : s.takeTurn.returnHeld = s.returnHeld := by
    simp [State.returnHeld, State.returnsRead, State.aborted, State.surface]
  rcases step_cases s t h with ⟨i, u, v, hf, hv, e⟩ | ⟨hf, e⟩
  · rw [State.endTurn_eq] at e
    refine ⟨v.noteWake i, e, ?_⟩
    rcases State.fetch_cases _ _ _ _ hf with ⟨hm, hf⟩ | ⟨hm, hi, rfl, rfl⟩
    · obtain ⟨hl, ⟨h1, h2, ⟨h3, rfl, rfl⟩ | ⟨w, ws, h3, rfl, rfl⟩⟩ | ⟨h1, h2, rfl, rfl⟩⟩ :=
        State.fetchForeground_cases _ _ _ hf
      · left
        refine ⟨hm, by simpa using hl, by simpa using h1, by simpa using h2, .inl ⟨by simpa using h3, ?_⟩⟩
        cases hv; rfl
      · left
        rw [State.noteWake_command]
        exact ⟨hm, by simpa using hl, by simpa using h1, by simpa using h2, .inr ⟨w, ws, by simpa using h3, hv⟩⟩
      · right; left
        exact ⟨hm, by simpa using hl, by simpa using h1, by rw [← hrh]; exact h2, v, hv, rfl⟩
    · right; right; right; right; left
      exact ⟨hm, by rw [← hie]; exact hi, v, hv, rfl⟩
  · rw [State.endTurn_eq] at e
    refine ⟨_, e, ?_⟩
    cases hm : s.turn.move with
    | foreground =>
      rw [hm] at hf
      cases hb : s.bootDue
      · right; right; right; left
        exact ⟨rfl, rfl, hf, by simp [State.environment, hbd, hb]⟩
      · right; right; left
        exact ⟨rfl, rfl, by simp [State.environment, hbd, hb]⟩
    | interrupt =>
      right; right; right; right; right; left
      refine ⟨rfl, ?_, rfl⟩
      rw [hm] at hf
      simp only [State.fetch] at hf
      split at hf
      · cases hf
      · next hn => rw [← hie]; simpa using hn
    | peripheral p =>
      right; right; right; right; right; right; left
      exact ⟨p, rfl, rfl⟩
    | host w =>
      right; right; right; right; right; right; right
      exact ⟨w, rfl, rfl⟩

end Sys2Proof.Machine
end

