-- ==== Sys2Proof/Laws/Safety.lean ====
section
/-! SUPPORT. Laws/Safety.lean: the fields that the protocol of Safety.lean reads, where an event can
be pending under it, and the small lemmas of `armed` and of runs. -/

namespace Sys2Proof.Machine

/-- `t` agrees with `s` in every field that `State.inPhase` reads. -/
def State.samePhase (s t : State) : Prop :=
  t.fg = s.fg ∧ t.lpm = s.lpm ∧ t.direction = s.direction ∧ t.rxCursor = s.rxCursor ∧
  t.rxRemaining = s.rxRemaining ∧ t.bus = s.bus ∧ t.txbufFull = s.txbufFull ∧ t.ifg.rxFull = s.ifg.rxFull ∧
  t.ifg.txEmpty = s.ifg.txEmpty ∧ t.ctl.tr = s.ctl.tr ∧ t.ctl.txstt = s.ctl.txstt ∧ t.ctl.txstp = s.ctl.txstp

theorem State.inPhase_congr (s t : State) (h : s.samePhase t) (hs : s.inPhase) : t.inPhase := by
  obtain ⟨e1, e2, e3, e4, e5, e6, e7, e8, e9, e10, e11, e12⟩ := h
  simp only [State.inPhase, State.released, State.free, State.releasing, State.quiet, State.transmitting,
    State.receiving, State.setupDone, State.receiveDone, e1, e2, e3, e4, e5, e6, e7, e8, e9, e10, e11, e12] at *
  exact hs

theorem State.inPhase_latchIv (s : State) (n : Nat) (h : s.inPhase) : (s.latchIv n).inPhase :=
  State.inPhase_congr s _ (by simp [State.samePhase]) h

theorem State.inPhase_takeTurn (s : State) (h : s.inPhase) : s.takeTurn.inPhase :=
  State.inPhase_congr s _ (by simp [State.samePhase]) h

/-- Where a receive-ready event can be pending: phase 2 of a `READ`, before its final store. -/
theorem State.inPhase_of_rxFull (s : State) (h : s.inPhase) (hr : s.ifg.rxFull = true) :
    s.receiving ∧ s.direction = .read ∧
    ((s.fg = Fg.r2Sleep ∧ s.lpm = false) ∨ (s.fg = Fg.r2Settle ∧ s.lpm = true)) := by
  simp [State.inPhase, State.released, State.free, State.releasing, State.quiet, State.transmitting, State.setupDone,
    State.receiveDone, hr] at h
  tauto

/-- Where a transmit-ready event can be pending: a transmit transaction, before its stop. -/
theorem State.inPhase_of_txEmpty (s : State) (h : s.inPhase) (ht : s.ifg.txEmpty = true) :
    s.transmitting ∧
    ((s.direction = .write ∧ ((s.fg = Fg.wSleep ∧ s.lpm = false) ∨ (s.fg = Fg.wSettle ∧ s.lpm = true))) ∨
     (s.direction = .read ∧ s.rxCursor = 0 ∧
      ((s.fg = Fg.r1Sleep ∧ s.lpm = false) ∨ (s.fg = Fg.r1Settle ∧ s.lpm = true)))) := by
  simp [State.inPhase, State.released, State.free, State.releasing, State.quiet, State.receiving, State.setupDone,
    State.receiveDone, ht] at h
  tauto

/-- In step, the foreground stands at no reserved position. -/
theorem State.fgReserved_of_inPhase (s : State) (h : s.inPhase) : fgReserved s.fg = false := by
  rcases h with h | h | h | h | h | h | h | h | h | h | h | h | h | h | h | h | h <;> rw [h.1] <;> decide

@[simp] theorem State.armed_latchIv (s : State) (n : Nat) : (s.latchIv n).armed = s.armed := rfl

@[simp] theorem State.armed_takeTurn (s : State) : s.takeTurn.armed = s.armed := by
  simp [State.armed, State.inArmWindow]

theorem State.inPhase_noteWake (s : State) (i : Instr) (h : s.inPhase) : (s.noteWake i).inPhase :=
  State.inPhase_congr s _ (by simp [State.samePhase]) h

/-- Whether a step of R138 to R142 is enabled is not for the status vector or the turn to change. -/
@[simp] theorem State.periphBusy_latchIv (s : State) (n : Nat) : (s.latchIv n).periphBusy = s.periphBusy := rfl

@[simp] theorem State.polling_latchIv (s : State) (n : Nat) : (s.latchIv n).polling = s.polling := rfl

@[simp] theorem State.commandCount_latchIv (s : State) (n : Nat) (h : List CmdWord) :
    (s.latchIv n).commandCount h = s.commandCount h := rfl

/-- A run that is extended by a step of a turn that is not the host's keeps the words still to be presented. -/
theorem presents_of_not_host (m : Move) (h h' : List CmdWord) (hm : ∀ w, m ≠ .host w) : presents m h h' ↔ h' = h := by
  cases m with
  | host w => exact absurd rfl (hm w)
  | foreground => rfl
  | interrupt => rfl
  | peripheral p => rfl

end Sys2Proof.Machine
end

