-- ==== Sys2Proof/Tests/Slice0.lean ====
section
/-! SUPPORT. Tests/Slice0.lean: the WellFormed smoke test, words written out from the encodings of 30_encoding.md, vectors
of 95_test_vectors.md (their numbers stand beside them), and for every statement with hypotheses a state that meets them. -/

namespace Sys2Proof.Tests

open Sys2Proof.Machine

/-! ### Helpers -/

def params (p : NackPolicy) : Params :=
  { clkSel := 5
    br := 0x0028
    sa := 0x48
    nackPolicy := p
    ieOther := ⟨true, true, true, true⟩
    settleDelay := 0
    noEarlyEvent := false
    settleCoversStop := false }

/-- The state `S0` of 95_test_vectors.md, with every cause enabled and `gie = 1`. -/
def s0 : State :=
  { State.resetWith (params .ignore) [0x11, 0x22, 0x33] with
    gie := true
    ctl := ⟨false, true, .i2c, true, false, false, false⟩
    ie := ⟨true, true, true, true, true, true⟩ }

/-- The same under `Surface`. -/
def u0 : State := { s0 with par := params .surface }

/-- The same under `A_NO_EARLY_EVENT` and `A_SETTLE_COVERS_STOP`. -/
def a0 : State := { s0 with par := { params .ignore with noEarlyEvent := true, settleCoversStop := true } }

/-- It is `m`'s turn. -/
def onTurn (s : State) (m : Move) : State := { s with sched := [⟨m, 0⟩] }

/-- The one pending cause is receive-ready (transmit-ready), and `IV` says so. -/
def rxPending (s : State) : State := { s with ifg := { s.ifg with rxFull := true }, iv := Ev.rxFull }
def txPending (s : State) : State := { s with ifg := { s.ifg with txEmpty := true }, iv := Ev.txEmpty }

/-- The result is a next state that meets `p`. -/
def goesTo (r : Result) (p : State → Bool) : Bool :=
  match r with
  | .next t => p t
  | .fault _ => false
  | .refused _ => false

/-- The fault of a result, if it is one. -/
def faultOf (r : Result) : Option Fault :=
  match r with
  | .next _ => none
  | .fault f => some f
  | .refused _ => none

theorem goesTo_next (r : Result) (p : State → Bool) (h : goesTo r p = true) : ∃ t, r = .next t ∧ p t = true := by
  cases r with
  | next t => exact ⟨t, rfl, h⟩
  | fault f => cases h
  | refused x => cases h

/-! ### WellFormed: the ill-formed terms are refused -/

theorem test_wf_refuses_fg14 : Instr.fgReserved14.wf = false := by decide
theorem test_wf_refuses_fg15 : Instr.fgReserved15.wf = false := by decide
theorem test_wf_accepts_read : (Instr.read 0xFF).wf = true := by decide
theorem test_ie_other_surface : ieOtherWf .surface ⟨true, false, true, true⟩ = false := by decide
theorem test_ie_other_ignore : ieOtherWf .ignore ⟨false, false, false, false⟩ = true := by decide

/-! ### Decode: bits written out from R61, R62, R63 -/

theorem test_decode_write : decodeTableWord 17 0b0_00000110_00000011 = some (.write 0x06 0x03) := by decide
theorem test_decode_read : decodeTableWord 17 0b1_00000101_11111111 = some (.read 0x05) := by decide
theorem test_decode_read_24 : decodeTableWord 24 0b1_11111111_00000000 = some (.read 0xFF) := by decide
theorem test_decode_too_wide : decodeTableWord 24 0b10_00000000_00000000 = none := by decide
theorem test_decode_events :
    decodeTableWord 3 0b000 = some .evNone ∧ decodeTableWord 3 0b001 = some .evArbLost ∧
    decodeTableWord 3 0b010 = some .evNack ∧ decodeTableWord 3 0b011 = some .evStart ∧
    decodeTableWord 3 0b100 = some .evStop ∧ decodeTableWord 3 0b101 = some .rxCont ∧
    decodeTableWord 3 0b110 = some .txAddr ∧ decodeTableWord 3 0b111 = some .evNoneReserved := by decide
theorem test_decode_tiers :
    decodeEvent 0b101 0 3 = .rxCont ∧ decodeEvent 0b101 0 2 = .rxPenult ∧ decodeEvent 0b101 0 1 = .rxLast ∧
    decodeEvent 0b101 0 0 = .rxLast ∧ decodeEvent 0b101 0 255 = .rxCont ∧ decodeEvent 0b110 2 0 = .txAddr ∧
    decodeEvent 0b110 1 0 = .txData ∧ decodeEvent 0b110 0 0 = .txDone ∧ decodeEvent 0b110 255 0 = .txAddr := by decide
theorem test_decode_positions_low :
    decodeTableWord 4 0b0000 = some .idle ∧ decodeTableWord 4 0b0001 = some .wPoll ∧
    decodeTableWord 4 0b0010 = some .wArm ∧ decodeTableWord 4 0b0011 = some .wSleep ∧
    decodeTableWord 4 0b0100 = some .wSettle ∧ decodeTableWord 4 0b0101 = some .r1Poll ∧
    decodeTableWord 4 0b0110 = some .r1Arm ∧ decodeTableWord 4 0b0111 = some .r1Sleep := by decide
theorem test_decode_positions_high :
    decodeTableWord 8 0b1000 = some .r1Settle ∧ decodeTableWord 8 0b1001 = some .r2Init ∧
    decodeTableWord 8 0b1010 = some .r2Poll ∧ decodeTableWord 8 0b1011 = some .r2Arm ∧
    decodeTableWord 8 0b1100 = some .r2Sleep ∧ decodeTableWord 8 0b1101 = some .r2Settle ∧
    decodeTableWord 8 0b1110 = some .fgReserved14 ∧ decodeTableWord 8 0b1111 = some .fgReserved15 := by decide
theorem test_place_runs_first :
    goesTo (step (State.reset.withFetchWord 24 0x00603)) (fun t =>
      decide (t.fg = Fg.wPoll ∧ t.addrByte = 0x06 ∧ t.dataByte = 0x03 ∧ t.txRemaining = 2)) = true := by decide

/-! ### Initialisation (vectors I1, I5, I9, I12) -/

theorem test_write_I1 : goesTo (exec (.write 0x06 0x03) s0) (fun t =>
    decide (t.direction = .write ∧ t.txRemaining = 2 ∧ t.addrByte = 0x06 ∧ t.dataByte = 0x03 ∧ t.fg = 1)) = true := by
  decide
theorem test_write_I12 : goesTo (exec (.write 0x06 0x03) { u0 with status := 1 }) (fun t =>
    decide (t.status = 0 ∧ t.fg = 1)) = true := by decide
theorem test_read_I5 : goesTo (exec (.read 0x05) { s0 with addrByte := 0x06, rxCursor := 2 }) (fun t =>
    decide (t.direction = .read ∧ t.txRemaining = 1 ∧ t.dataByte = 0x05 ∧ t.rxCursor = 0 ∧ t.addrByte = 0x06 ∧
      t.fg = 5)) = true := by decide
theorem test_r2Init_I9 : goesTo (exec .r2Init { s0 with fg := 9 }) (fun t =>
    decide (t.rxRemaining = 3 ∧ t.fg = 10)) = true := by decide
theorem test_command_waits_I11 :
    goesTo (step (onTurn { s0 with fg := 4, lpm := true, cmds := [0x10500] } .foreground)) (fun t =>
      decide (t.fg = 4 ∧ t.cmds = [0x10500])) = true := by decide

/-! ### Receive tiers (vectors RX1 to RX12) -/

theorem test_rxCont_RX1 :
    goesTo (exec .rxCont { rxPending s0 with rxRemaining := 3, rxCursor := 0, rxbuf := 0x11 }) (fun t =>
      decide (t.rxRemaining = 2 ∧ t.cell 0 = 0x11 ∧ t.rxCursor = 1 ∧ t.ifg.rxFull = false ∧ t.ctl.txstp = false)) =
      true := by decide
theorem test_rxCont_RX8 :
    faultOf (exec .rxCont { rxPending s0 with rxRemaining := 3, rxCursor := 3 }) = some (.rxOverrun 3) := by decide
theorem test_rxPenult_RX2 :
    goesTo (exec .rxPenult { rxPending s0 with rxRemaining := 2, rxCursor := 1, rxbuf := 0x22, lpm := true }) (fun t =>
      decide (t.rxRemaining = 1 ∧ t.cell 1 = 0x22 ∧ t.rxCursor = 2 ∧ t.ctl.txstp = true ∧ t.lpm = true)) = true := by
  decide
theorem test_rxPenult_SV6 :
    goesTo (exec .rxPenult { rxPending u0 with status := 1, rxRemaining := 2, rxCursor := 1, rxbuf := 0x22 }) (fun t =>
      decide (t.ifg.rxFull = false ∧ t.rxRemaining = 2 ∧ t.rxCursor = 1 ∧ t.rxBuf = [] ∧ t.ctl.txstp = false)) =
      true := by decide
theorem test_rxLast_RX3 :
    goesTo (exec .rxLast { rxPending s0 with rxRemaining := 1, rxCursor := 2, rxbuf := 0x33, lpm := true, wakeCount := 1 })
      (fun t => decide (t.rxRemaining = 0 ∧ t.cell 2 = 0x33 ∧ t.rxCursor = 2 ∧ t.lpm = false ∧ t.wakeCount = 2)) =
      true := by decide
theorem test_rxLast_RX6 :
    goesTo (exec .rxLast { rxPending s0 with rxRemaining := 0, rxCursor := 0, rxbuf := 0x55, lpm := true })
      (fun t => decide (t.cell 0 = 0x55 ∧ t.lpm = false ∧ t.wakeCount = 1)) = true := by decide

/-! ### Transmit tiers (vectors TX1 to TX11) -/

theorem test_txAddr_TX1 :
    goesTo (exec .txAddr { txPending s0 with txRemaining := 2, addrByte := 0x06, dataByte := 0x03 }) (fun t =>
      decide (t.txbuf = 0x06 ∧ t.txbufFull = true ∧ t.txRemaining = 1 ∧ t.ifg.txEmpty = false)) = true := by decide
theorem test_txAddr_TX9 :
    goesTo (exec .txAddr { txPending s0 with txRemaining := 255, addrByte := 0x9C }) (fun t =>
      decide (t.txbuf = 0x9C ∧ t.txRemaining = 254)) = true := by decide
theorem test_txData_TX2 :
    goesTo (exec .txData { txPending s0 with txRemaining := 1, addrByte := 0x06, dataByte := 0x03 }) (fun t =>
      decide (t.txbuf = 0x03 ∧ t.txbufFull = true ∧ t.txRemaining = 0)) = true := by decide
theorem test_txData_SV5 :
    goesTo (exec .txData { txPending u0 with status := 1, txRemaining := 1, dataByte := 0x03 }) (fun t =>
      decide (t.ifg.txEmpty = false ∧ t.txbuf = 0 ∧ t.txRemaining = 1)) = true := by decide
theorem test_txDone_TX3 :
    goesTo (exec .txDone { txPending s0 with direction := .write, lpm := true, ctl := { s0.ctl with tr := true } })
      (fun t => decide (t.ctl.txstp = true ∧ t.ctl.tr = true ∧ t.lpm = false ∧ t.wakeCount = 1 ∧ t.ifg.txEmpty = false)) =
      true := by decide
theorem test_txDone_TX4 :
    goesTo (exec .txDone { txPending s0 with direction := .read, lpm := true, ctl := { s0.ctl with tr := true } })
      (fun t => decide (t.ctl.txstp = true ∧ t.ctl.tr = false ∧ t.lpm = false ∧ t.txRemaining = 0)) = true := by decide

/-! ### Other events (vectors OV1 to OV6, SV1 to SV4) -/

theorem test_evArbLost_OV1 :
    goesTo (exec .evArbLost { s0 with ifg := { s0.ifg with arbLost := true }, iv := 1, lpm := true, txRemaining := 1 })
      (fun t => decide (t.ifg.arbLost = false ∧ t.lpm = true ∧ t.txRemaining = 1)) = true := by decide
theorem test_evArbLost_SV4 :
    goesTo (exec .evArbLost { u0 with ifg := { s0.ifg with arbLost := true }, iv := 1, lpm := true }) (fun t =>
      decide (t.status = 2 ∧ t.lpm = false ∧ t.wakeCount = 1 ∧ t.ifg.arbLost = false ∧ t.ctl.txstp = false)) = true := by
  decide
theorem test_evNack_OV2 :
    goesTo (exec .evNack { s0 with ifg := { s0.ifg with nack := true }, iv := 2, lpm := true }) (fun t =>
      decide (t.ifg.nack = false ∧ t.ctl.txstp = false ∧ t.lpm = true ∧ t.wakeCount = 0)) = true := by decide
theorem test_evNack_SV1 :
    goesTo (exec .evNack
      { u0 with ifg := { s0.ifg with nack := true, txEmpty := true }, iv := 2, lpm := true, txRemaining := 1 }) (fun t =>
      decide (t.status = 1 ∧ t.ctl.txstp = true ∧ t.ifg = s0.ifg ∧ t.lpm = false ∧ t.wakeCount = 1 ∧
        t.txRemaining = 1)) = true := by decide
theorem test_evStart_OV3 :
    goesTo (exec .evStart { s0 with ifg := { s0.ifg with start := true }, iv := 3 }) (fun t =>
      decide (t.ifg.start = false ∧ t.fg = 0)) = true := by decide
theorem test_evStop_OV4 :
    goesTo (exec .evStop
      { s0 with ifg := { s0.ifg with stop := true }, iv := 4, lpm := true, ctl := { s0.ctl with txstp := true } }) (fun t =>
      decide (t.ifg.stop = false ∧ t.lpm = true ∧ t.ctl.txstp = true)) = true := by decide
theorem test_evNone_OV5 : goesTo (exec .evNone s0) (fun t => decide (t = s0)) = true := by decide
theorem test_evNoneReserved_OV6 :
    goesTo (exec .evNoneReserved { s0 with iv := 7 }) (fun t => decide (t = { s0 with iv := 7 })) = true := by decide

/-! ### Foreground micro-operations (vectors FG1 to FG19) -/

theorem test_idle : goesTo (exec .idle s0) (fun t => decide (t = s0)) = true := by decide
theorem test_wPoll_FG1 : goesTo (exec .wPoll { s0 with fg := 1 }) (fun t => decide (t.fg = 2)) = true := by decide
theorem test_wPoll_FG2 :
    goesTo (exec .wPoll { s0 with fg := 1, ctl := { s0.ctl with txstp := true } }) (fun t => decide (t.fg = 1)) = true := by
  decide
theorem test_wArm_FG3 : goesTo (exec .wArm { s0 with fg := 2 }) (fun t =>
    decide (t.ctl.tr = true ∧ t.ctl.txstt = true ∧ t.fg = 3)) = true := by decide
theorem test_wSleep_FG5 : goesTo (exec .wSleep { s0 with fg := 3, gie := false }) (fun t =>
    decide (t.lpm = true ∧ t.gie = true ∧ t.fg = 4)) = true := by decide
theorem test_wSettle_FG8 : goesTo (exec .wSettle { s0 with fg := 4 }) (fun t =>
    decide (t.fg = 0 ∧ t.responses = [.written none])) = true := by decide
theorem test_wSettle_SV9 : goesTo (exec .wSettle { u0 with fg := 4, status := 1 }) (fun t =>
    decide (t.fg = 0 ∧ t.responses = [.written (some 1)])) = true := by decide
theorem test_r1Poll_FG9 : goesTo (exec .r1Poll { s0 with fg := 5 }) (fun t => decide (t.fg = 6)) = true := by decide
theorem test_r1Arm_FG10 : goesTo (exec .r1Arm { s0 with fg := 6 }) (fun t =>
    decide (t.ctl.tr = true ∧ t.ctl.txstt = true ∧ t.fg = 7)) = true := by decide
theorem test_r1Sleep_FG11 : goesTo (exec .r1Sleep { s0 with fg := 7 }) (fun t =>
    decide (t.lpm = true ∧ t.gie = true ∧ t.fg = 8)) = true := by decide
theorem test_r1Settle_FG12 : goesTo (exec .r1Settle { s0 with fg := 8 }) (fun t => decide (t.fg = 9)) = true := by decide
theorem test_r1Settle_SV7 :
    goesTo (exec .r1Settle { u0 with fg := 8, status := 1, rxBuf := [(0, 0x11)] }) (fun t =>
      decide (t.fg = 0 ∧ t.responses = [.bytes 0x11 0 0 (some 1)])) = true := by decide
theorem test_r2Poll_FG13 :
    goesTo (exec .r2Poll { s0 with fg := 10, ctl := { s0.ctl with txstp := true } }) (fun t => decide (t.fg = 10)) = true := by
  decide
theorem test_r2Arm_FG14 : goesTo (exec .r2Arm { s0 with fg := 11 }) (fun t =>
    decide (t.ctl.txstt = true ∧ t.ctl.tr = false ∧ t.fg = 12)) = true := by decide
theorem test_r2Arm_FG15 : goesTo (exec .r2Arm { s0 with fg := 11, ctl := { s0.ctl with tr := true } }) (fun t =>
    decide (t.ctl.txstt = true ∧ t.ctl.tr = true ∧ t.fg = 12)) = true := by decide
theorem test_r2Sleep_FG16 : goesTo (exec .r2Sleep { s0 with fg := 12 }) (fun t =>
    decide (t.lpm = true ∧ t.gie = true ∧ t.fg = 13)) = true := by decide
theorem test_r2Settle_FG17 :
    goesTo (exec .r2Settle { s0 with fg := 13, rxBuf := [(0, 0x11), (1, 0x22), (2, 0x33)] }) (fun t =>
      decide (t.fg = 0 ∧ t.responses = [.bytes 0x11 0x22 0x33 none])) = true := by decide
theorem test_reserved_positions_FG19 :
    faultOf (exec .fgReserved14 { s0 with fg := 14 }) = some (.reservedEncoding 14) ∧
    faultOf (step { s0 with fg := 15 }) = some (.reservedEncoding 15) := by decide
theorem test_reserved_status_SV10 : faultOf (step { u0 with status := 3 }) = some (.reservedEncoding 3) := by decide

/-! ### Reference peripheral, receive destination, reset (vectors PV1 to PV13, MV1 to MV3) -/

theorem test_pStart_PV1 :
    goesTo (step (onTurn { s0 with ctl := { s0.ctl with tr := true, txstt := true } } (.peripheral .start))) (fun t =>
      decide (t.txLog = [.startW] ∧ t.bus = .txActive ∧ t.ifg.txEmpty = true ∧ t.ctl.txstt = false)) = true := by decide
theorem test_pTxTake_PV4 :
    goesTo (step (onTurn { s0 with bus := .txActive, txbufFull := true, txbuf := 0x06, txLog := [.startW] }
      (.peripheral .txTake))) (fun t =>
      decide (t.txLog = [.startW, .byte 0x06] ∧ t.txbufFull = false ∧ t.ifg.txEmpty = true)) = true := by decide
theorem test_pRxByte_PV8 :
    goesTo (step (onTurn { s0 with bus := .rxActive, rxSrc := [0x33], ctl := { s0.ctl with txstp := true } }
      (.peripheral .rxByte))) (fun t =>
      decide (t.rxbuf = 0x33 ∧ t.rxSrc = [] ∧ t.ifg.rxFull = true ∧ t.bus = .rxStopping)) = true := by decide
theorem test_peripheral_in_reset_PV13 :
    goesTo (step (onTurn { s0 with ctl := { s0.ctl with swrst := true } } (.peripheral (.other .nack)))) (fun t =>
      decide (t.ifg.nack = false)) = true := by decide
theorem test_rxStore_MV2 :
    goesTo (State.rxStore { s0 with rxCursor := 2, rxBuf := [(0, 0x11), (1, 0x22)] } 0x33) (fun t =>
      decide (t.rxBuf = [(0, 0x11), (1, 0x22), (2, 0x33)] ∧ t.rxCursor = 2)) = true := by decide
theorem test_store_blank_removes_cell : Memory.write [(0, 0x11), (1, 0x22)] 1 0x00 = [(0, 0x11)] := by decide
theorem test_reset_memory_wf : Memory.wf State.reset.rxBuf = true := by decide
theorem test_config_after_reset :
    goesTo (step (onTurn State.reset .foreground)) (fun t =>
      decide (t.ctl.swrst = false ∧ t.ctl.mst = true ∧ t.ie.rxFull = true ∧ t.ie.txEmpty = true ∧ t.fg = 0)) = true := by
  decide

/-! ### The hypotheses of every statement can be met (a witness for each clause, at the edges of its range) -/

theorem witness_EventSelection :
    (2 : Counter) < 3 ∧ (2 : Counter) < 255 ∧ (2 : Counter) = 2 ∧ (1 : Counter) ≤ 1 ∧ (0 : Counter) ≤ 1 ∧
    (1 : Counter) < 2 ∧ (1 : Counter) < 255 ∧ (1 : Counter) = 1 ∧ (0 : Counter) = 0 := by decide

theorem witness_PositionSelection : ({ s0 with lpm := true } : State).lpm = true := by decide

theorem witness_DecodeEncodeAgree :
    (Instr.rxCont.wf && Instr.rxCont.selectedBy 0 3 && Instr.rxCont.selectedBy 0 255) = true ∧
    (Instr.rxPenult.wf && Instr.rxPenult.selectedBy 0 2) = true ∧
    (Instr.rxLast.wf && Instr.rxLast.selectedBy 0 1 && Instr.rxLast.selectedBy 0 0) = true ∧
    (Instr.txAddr.wf && Instr.txAddr.selectedBy 2 0 && Instr.txAddr.selectedBy 255 0) = true ∧
    (Instr.txData.wf && Instr.txData.selectedBy 1 0) = true ∧ (Instr.txDone.wf && Instr.txDone.selectedBy 0 0) = true ∧
    ((Instr.read 0xFF).wf && (Instr.read 0xFF).selectedBy 0 0) = true := by decide

/-- No code is reserved. -/
def sound (s : State) : Bool := !fgReserved s.fg && !s.statusReserved

theorem witness_StepRuns_position :
    let s := onTurn { a0 with fg := 13 } .foreground
    sound s = true ∧ s.turn.move = .foreground ∧ s.lpm = false ∧ s.fg ≠ Fg.idle ∧ s.returnHeld = false := by decide
theorem witness_StepRuns_command :
    let s := onTurn { u0 with cmds := [0x10500, 7] } .foreground
    sound s = true ∧ s.turn.move = .foreground ∧ s.lpm = false ∧ s.fg = Fg.idle ∧ s.ctl.swrst = false ∧
    s.cmds = [0x10500, 7] := by decide
theorem witness_StepRuns_idle :
    let s := onTurn s0 .foreground
    sound s = true ∧ s.turn.move = .foreground ∧ s.lpm = false ∧ s.fg = Fg.idle ∧ s.ctl.swrst = false ∧ s.cmds = [] := by
  decide
theorem witness_StepRuns_event :
    let s := onTurn (txPending { s0 with fg := 4, lpm := true }) .interrupt
    sound s = true ∧ s.turn.move = .interrupt ∧ s.interruptEnabled = true := by decide

theorem witness_StepWithoutOperation :
    (sound (onTurn s0 (.peripheral .start)) = true ∧ (onTurn s0 (.peripheral .start)).turn.move = .peripheral .start) ∧
    (sound (onTurn s0 (.host 7)) = true ∧ (onTurn s0 (.host 7)).turn.move = .host 7) ∧
    (sound (onTurn s0 .interrupt) = true ∧ (onTurn s0 .interrupt).interruptEnabled = false) ∧
    (let s := onTurn { s0 with fg := 4, lpm := true } .foreground
     sound s = true ∧ s.turn.move = .foreground ∧ s.lpm = true) ∧
    (let s := onTurn { a0 with fg := 13, ctl := { s0.ctl with txstp := true } } .foreground
     sound s = true ∧ s.turn.move = .foreground ∧ s.fg ≠ Fg.idle ∧ s.returnHeld = true) := by decide

theorem witness_ReservedValues :
    ({ s0 with fg := 14 } : State).fg = 14 ∧ ({ s0 with fg := 15 } : State).fg = 15 ∧
    (let s : State := { u0 with status := 3, fg := 13 }
     s.par.nackPolicy = .surface ∧ s.status = 3 ∧ s.fg ≠ 14 ∧ s.fg ≠ 15) := by decide

theorem witness_CallWriteInitialises :
    (∃ u, State.fetchForeground { s0 with cmds := [0x0FF00] } = some (.write 0xFF 0x00, u)) ∧
    s0.par.nackPolicy = .ignore ∧ u0.par.nackPolicy = .surface := ⟨⟨_, rfl⟩, rfl, rfl⟩
theorem witness_CallReadInitialises :
    (∃ u, State.fetchForeground { s0 with cmds := [0x105FF] } = some (.read 0x05, u)) ∧
    s0.par.nackPolicy = .ignore ∧ u0.par.nackPolicy = .surface := ⟨⟨_, rfl⟩, rfl, rfl⟩
theorem witness_PhaseTwoInitialises : ∃ u, State.fetchForeground { s0 with fg := 9 } = some (.r2Init, u) := ⟨_, rfl⟩

/-- The condition under which the data tiers apply. -/
def tiersApply (s : State) : Prop := s.par.nackPolicy = .ignore ∨ s.status = Status.ok

theorem witness_tiersApply : tiersApply { s0 with status := 1 } ∧ tiersApply u0 := ⟨.inl rfl, .inr rfl⟩
theorem witness_RxContReceives :
    tiersApply { s0 with rxCursor := 2 } ∧ ({ s0 with rxCursor := 2 } : State).rxCursor ≠ 3 ∧
    tiersApply { u0 with rxCursor := 3 } ∧ ({ u0 with rxCursor := 3 } : State).rxCursor = 3 :=
  ⟨.inl rfl, by decide, .inr rfl, rfl⟩
theorem witness_RxPenultReceivesAndStops :
    let s : State := { u0 with rxRemaining := 2, rxCursor := 0 }
    let r : State := { s0 with rxRemaining := 2, rxCursor := 3 }
    tiersApply s ∧ s.rxRemaining = 2 ∧ s.rxCursor ≠ 3 ∧ tiersApply r ∧ r.rxRemaining = 2 ∧ r.rxCursor = 3 :=
  ⟨.inr rfl, rfl, by decide, .inl rfl, rfl, rfl⟩
theorem witness_RxLastReceivesAndWakes :
    let s : State := { s0 with rxRemaining := 0, rxCursor := 2, lpm := true }
    let r : State := { u0 with rxRemaining := 1, rxCursor := 3 }
    tiersApply s ∧ s.rxCursor ≠ 3 ∧ tiersApply r ∧ r.rxCursor = 3 := ⟨.inl rfl, by decide, .inr rfl, rfl⟩

theorem witness_ReceiveStoreFrame_stores :
    let s : State := { rxPending s0 with rxRemaining := 1, rxCursor := 2, rxbuf := 0x33, rxBuf := [(0, 0x11), (1, 0x22)] }
    Memory.wf s.rxBuf = true ∧ s.aborted = false ∧ ∃ t, exec .rxLast s = .next t := by
  refine ⟨by decide, by decide, ?_⟩
  obtain ⟨t, h, _⟩ := goesTo_next _ (fun _ => true) (by decide : goesTo (exec .rxLast
    { rxPending s0 with rxRemaining := 1, rxCursor := 2, rxbuf := 0x33, rxBuf := [(0, 0x11), (1, 0x22)] }) _ = true)
  exact ⟨t, h⟩
theorem witness_ReceiveStoreFrame_aborted :
    let s : State := { rxPending u0 with status := 2, rxRemaining := 3, rxBuf := [(0, 0x11)] }
    Memory.wf s.rxBuf = true ∧ s.aborted = true ∧ ∃ t, exec .rxCont s = .next t :=
  ⟨by decide, by decide, _, rfl⟩

theorem witness_OtherEventsAcknowledged : s0.par.nackPolicy = .ignore := rfl
theorem witness_SurfaceErrorEvents :
    (let s : State := { u0 with lpm := true }
     s.par.nackPolicy = .surface ∧ s.lpm = true ∧ s.status = Status.ok) ∧
    (u0.par.nackPolicy = .surface ∧ u0.lpm = false) ∧
    (let s : State := { u0 with lpm := true, status := 2 }
     s.par.nackPolicy = .surface ∧ s.status ≠ Status.ok) := by decide
theorem witness_AbortedTransactionGuard :
    (u0.par.nackPolicy = .surface ∧ u0.status = Status.ok) ∧
    (({ u0 with status := 1 } : State).status ≠ Status.ok) := by decide
theorem witness_SettlesReturn :
    (∃ u, State.fetchForeground { s0 with fg := 4 } = some (.wSettle, u)) ∧
    (s0.par.nackPolicy = .ignore ∧ (none : Option StatusCode) = none) ∧
    (let s : State := { u0 with fg := 8, status := 2 }
     s.par.nackPolicy = .surface ∧ some s.status = some 2 ∧ s.status ≠ Status.ok) := ⟨⟨_, rfl⟩, by decide, by decide⟩

/-- The step from `s` answers a next state that meets `p`. -/
def stepsTo (s : State) (p : State → Bool) : Bool := goesTo (step s) p

theorem stepsTo_next (s : State) (p : State → Bool) (h : stepsTo s p = true) : ∃ t, step s = .next t ∧ p t = true :=
  goesTo_next _ _ h

theorem witness_ForegroundOrder :
    stepsTo (onTurn { s0 with cmds := [0x00603] } .foreground) (fun t => decide (t.fg ≠ s0.fg)) = true ∧
    stepsTo (onTurn { u0 with fg := 8, status := 1 } .foreground) (fun t => decide (t.fg = Fg.idle)) = true ∧
    stepsTo (onTurn s0 .interrupt) (fun t => decide (t.fg = s0.fg)) = true := by decide
theorem witness_HandlerFrame :
    let s := onTurn (txPending { s0 with lpm := true, fg := 8, direction := .read }) .interrupt
    s.turn.move = .interrupt ∧ stepsTo s (fun t => decide (t.lpm = false)) = true := by decide
theorem witness_ForegroundFrame :
    let s := onTurn { s0 with fg := 2 } .foreground
    s.turn.move = .foreground ∧ s.ctl.swrst = false ∧ stepsTo s (fun t => decide (t.ctl.txstt = true)) = true := by decide
theorem witness_TransactionStateWriters :
    stepsTo (onTurn { s0 with cmds := [0x1FF00] } .foreground) (fun t => decide (t.dataByte = 0xFF ∧ t.txRemaining = 1)) =
      true ∧
    stepsTo (onTurn { s0 with fg := 9 } .foreground) (fun t => decide (t.rxRemaining = 3)) = true ∧
    stepsTo (onTurn (rxPending { s0 with rxRemaining := 2, rxCursor := 2 }) .interrupt) (fun t =>
      decide (t.rxCursor = 3)) = true := by decide
theorem witness_MutationDiscipline :
    (let s := onTurn { s0 with fg := 12 } .foreground
     s.inArmWindow = true ∧ s.turn.move ≠ .interrupt ∧ stepsTo s (fun _ => true) = true) ∧
    (let s := onTurn { s0 with fg := 13, lpm := true } (.peripheral .rxStop)
     s.armed = true ∧ s.turn.move ≠ .interrupt ∧ stepsTo s (fun _ => true) = true) ∧
    goesTo (exec .r2Settle s0) (fun _ => true) = true := by decide
theorem witness_WaitFlagRule :
    stepsTo (onTurn { s0 with fg := 3 } .foreground) (fun t => decide (s0.lpm = false ∧ t.lpm = true)) = true ∧
    stepsTo (onTurn (txPending { s0 with fg := 4, lpm := true }) .interrupt) (fun t => decide (t.lpm = false)) = true ∧
    stepsTo (onTurn { s0 with fg := 4, lpm := true } .foreground) (fun t => decide (t.fg = 4 ∧ t.lpm = true)) = true := by
  decide
theorem witness_InterruptEnableRule :
    stepsTo (onTurn { s0 with fg := 3, gie := false } .foreground) (fun t => t.lpm && t.gie) = true ∧
    stepsTo (onTurn { s0 with fg := 12, gie := true } .foreground) (fun t => t.lpm && t.gie) = true ∧
    stepsTo (onTurn (txPending { s0 with gie := false }) .interrupt) (fun t => t.ifg.txEmpty) = true := by decide
theorem witness_InvocationEnabled :
    (s0.par.noEarlyEvent = false ∧ (txPending s0).interruptEnabled = true) ∧
    (a0.par.noEarlyEvent = true ∧ (txPending a0).interruptEnabled = true ∧
     (txPending { a0 with fg := 12 }).interruptEnabled = false) := by decide
theorem witness_StatusVectorRule :
    stepsTo (onTurn (txPending s0) .foreground) (fun t => decide (t.iv = 6)) = true ∧
    stepsTo (onTurn s0 .foreground) (fun t => decide (t.iv = 0)) = true ∧
    (txPending (rxPending s0)).ifg.has 5 = true ∧ (txPending (rxPending s0)).ie.has 5 = true := by decide
theorem witness_HandledCauseCleared :
    let s := onTurn (txPending s0) .interrupt
    s.turn.move = .interrupt ∧ s.interruptEnabled = true ∧ s.ifg.has s.iv = true ∧
    stepsTo s (fun t => decide (t.ifg.has s.iv = false)) = true := by decide
theorem witness_HostPorts :
    stepsTo (onTurn s0 (.host 0x00603)) (fun t => decide (t.cmds = [0x00603])) = true ∧
    stepsTo (onTurn { s0 with cmds := [0x00603, 7] } .foreground) (fun t => decide (t.cmds = [7])) = true ∧
    stepsTo (onTurn { u0 with fg := 13, status := 2 } .foreground) (fun t =>
      decide (t.fg = Fg.idle ∧ t.responses = [.bytes 0 0 0 (some 2)])) = true := by decide

theorem witness_PeripheralTransmitSteps :
    s0.ctl.swrst = false ∧
    (let s : State := { s0 with ctl := { s0.ctl with txstt := true } }
     s.ctl.txstt = true ∧ s.ctl.txstp = false ∧ s.bus = .busIdle) ∧ s0.ctl.txstt = false ∧
    (let s : State := { s0 with bus := .txActive, txbufFull := true }
     s.bus = .txActive ∧ s.txbufFull = true) ∧ s0.txbufFull = false ∧
    (let s : State := { s0 with bus := .txActive, ctl := { s0.ctl with txstp := true } }
     s.bus = .txActive ∧ s.ctl.txstp = true ∧ s.txbufFull = false) ∧ s0.ctl.txstp = false := by decide
theorem witness_PeripheralReceiveSteps :
    s0.ctl.swrst = false ∧
    (let s : State := { s0 with bus := .rxActive, rxSrc := [0x33] }
     s.bus = .rxActive ∧ s.ifg.rxFull = false ∧ s.rxSrc = 0x33 :: []) ∧ s0.bus ≠ .rxActive ∧
    ({ s0 with bus := .rxStopping } : State).bus = .rxStopping ∧ s0.bus ≠ .rxStopping := by decide
theorem witness_PeripheralDuties :
    (let s := onTurn { s0 with ctl := { s0.ctl with tr := true, txstt := true } } (.peripheral .start)
     s.ifg.txEmpty = false ∧ stepsTo s (fun t => t.ifg.txEmpty) = true) ∧
    (let s := onTurn { s0 with bus := .rxActive } (.peripheral .rxByte)
     s.ifg.rxFull = false ∧ stepsTo s (fun t => t.ifg.rxFull) = true) ∧
    (State.resetWith (params .ignore) []).ctl.swrst = true ∧
    (let s : State := { s0 with ctl := { s0.ctl with txstt := true, txstp := true } }
     s.ctl.txstt = true ∧ s.ctl.txstp = true ∧ s.bus = .busIdle) ∧
    (let s : State := { s0 with txbufFull := true }
     s.txbufFull = true ∧ s.bus ≠ .txActive) := by decide

theorem witness_ResetInvariants : (params .ignore).nackPolicy = .ignore := by decide
theorem witness_ConfigStep :
    let s := onTurn (State.resetWith (params .surface) []) .foreground
    s.ctl.swrst = true ∧ s.fg = Fg.idle ∧ s.lpm = false ∧ s.statusReserved = false ∧ s.turn.move = .foreground := by decide
theorem witness_ConfigurationWrittenOnce :
    stepsTo (onTurn (State.resetWith (params .ignore) []) .foreground) (fun t => !t.ctl.swrst) = true ∧
    stepsTo (onTurn s0 .foreground) (fun t => !t.ctl.swrst) = true ∧
    stepsTo (onTurn (State.resetWith (params .ignore) []) (.host 7)) (fun t => t.ctl.swrst) = true := by decide
theorem witness_MemoryFormKept :
    let s := onTurn (rxPending { s0 with rxRemaining := 3, rxCursor := 2, rxbuf := 0x44 }) .interrupt
    Memory.wf s.rxBuf = true ∧ stepsTo s (fun t => decide (t.rxBuf = [(2, 0x44)])) = true := by decide
theorem witness_NoReservedCodeReached :
    ({ u0 with fg := 13, status := 2 } : State).fg.toNat < 14 ∧ ({ u0 with fg := 13, status := 2 } : State).status ≠ 3 := by
  decide

/-! The protocol and the two calls. -/

theorem protocol_s0 (ts : List Turn) (ws : List CmdWord) : State.protocol { s0 with sched := ts, cmds := ws } :=
  ⟨rfl, rfl, .inl ⟨rfl, rfl, .inl ⟨⟨rfl, rfl, rfl, rfl⟩, rfl, rfl⟩⟩⟩

theorem witness_ProtocolKept : s0.protocol := protocol_s0 [] []

/-- A `WRITE` at its arming; the stop of the transaction before has completed. -/
def arming : State := { a0 with fg := 2, txRemaining := 2, addrByte := 0x06, dataByte := 0x03 }

theorem protocol_arming (ts : List Turn) : State.protocol { arming with sched := ts } := by
  refine ⟨rfl, rfl, ?_⟩
  simp [State.inPhase, State.free, State.quiet, arming, a0, s0, State.resetWith]

theorem witness_ArmOnlyOnFreeBus :
    (onTurn arming .foreground).protocol ∧
    ∃ t, step (onTurn arming .foreground) = .next t ∧ (onTurn arming .foreground).ctl.txstt = false ∧
      t.ctl.txstt = true := by
  refine ⟨protocol_arming _, ?_⟩
  obtain ⟨t, h, p⟩ := stepsTo_next _ (fun t => t.ctl.txstt) (by decide : stepsTo (onTurn arming .foreground) _ = true)
  exact ⟨t, h, by decide, p⟩

/-- A `WRITE` armed and not yet asleep, its start not yet generated. -/
def armed : State :=
  { arming with
    fg := 3
    ctl := { s0.ctl with tr := true, txstt := true } }

theorem protocol_armed : armed.protocol := by
  refine ⟨rfl, rfl, ?_⟩
  simp [State.inPhase, State.transmitting, armed, arming, a0, s0, State.resetWith]

theorem witness_NoLostWakeUpUnderAssumption :
    armed.protocol ∧ armed.par.noEarlyEvent = true ∧ armed.inArmWindow = true ∧ armed.transmitting := by
  refine ⟨protocol_armed, rfl, rfl, ?_⟩
  simp [State.transmitting, armed, arming, a0, s0, State.resetWith]

/-- A `WRITE` whose transaction is over before it has gone to sleep. -/
def tooEarly : State := onTurn { s0 with fg := 3, woken := true } .foreground

/-- The completing event of a `WRITE` (of phase 2 of a `READ`) is pending before the `*_SLEEP`; the stop is still to complete. -/
def txEarly : State := onTurn (txPending { s0 with fg := 3, bus := .txActive, ctl := { s0.ctl with tr := true } }) .interrupt
def rxEarly : State :=
  onTurn
    (rxPending
      { s0 with
        fg := 12
        direction := .read
        bus := .rxStopping
        rxRemaining := 1
        rxCursor := 2
        ctl := { s0.ctl with txstp := true } })
    .interrupt
def txReleasing : State :=
  onTurn { s0 with fg := 3, bus := .txActive, ctl := { s0.ctl with txstp := true } } (.peripheral .txStop)
def rxReleasing : State :=
  onTurn
    { s0 with
      fg := 12
      direction := .read
      bus := .rxStopping
      rxCursor := 2
      ctl := { s0.ctl with txstp := true } }
    (.peripheral .rxStop)

theorem witness_LostWakeUp_transmit :
    txEarly.protocol ∧ txEarly.par.noEarlyEvent = false ∧ txEarly.inArmWindow = true ∧ txEarly.armed = true ∧ txEarly.gie = true ∧
    txEarly.turn.move = .interrupt ∧ txEarly.iv = Ev.txEmpty ∧ txEarly.txRemaining = 0 := by
  refine ⟨⟨rfl, rfl, ?_⟩, by decide⟩
  simp [State.inPhase, State.transmitting, txEarly, txPending, onTurn, s0, State.resetWith]
theorem witness_LostWakeUp_receive :
    rxEarly.protocol ∧ rxEarly.par.noEarlyEvent = false ∧ rxEarly.inArmWindow = true ∧ rxEarly.armed = true ∧ rxEarly.gie = true ∧
    rxEarly.turn.move = .interrupt ∧ rxEarly.iv = Ev.rxFull ∧ rxEarly.rxRemaining = 1 := by
  refine ⟨⟨rfl, rfl, ?_⟩, by decide⟩
  simp [State.inPhase, State.receiving, rxEarly, rxPending, onTurn, s0, State.resetWith]
theorem witness_LostWakeUp_txStop :
    txReleasing.protocol ∧ txReleasing.inArmWindow = true ∧ txReleasing.releasing ∧ txReleasing.ctl.swrst = false ∧
    txReleasing.bus = .txActive ∧ txReleasing.turn.move = .peripheral .txStop := by
  refine ⟨⟨rfl, rfl, ?_⟩, by decide, ⟨⟨rfl, rfl, rfl, rfl⟩, .inl rfl, rfl⟩, by decide⟩
  simp [State.inPhase, State.released, State.releasing, State.quiet, txReleasing, onTurn, s0, State.resetWith]
theorem witness_LostWakeUp_rxStop :
    rxReleasing.protocol ∧ rxReleasing.inArmWindow = true ∧ rxReleasing.releasing ∧ rxReleasing.ctl.swrst = false ∧
    rxReleasing.bus = .rxStopping ∧ rxReleasing.turn.move = .peripheral .rxStop := by
  refine ⟨⟨rfl, rfl, ?_⟩, by decide, ⟨⟨rfl, rfl, rfl, rfl⟩, .inr rfl, rfl⟩, by decide⟩
  simp [State.inPhase, State.receiveDone, State.released, State.releasing, State.quiet, rxReleasing, onTurn, s0,
    State.resetWith]
theorem witness_LostWakeUp_asleep :
    tooEarly.protocol ∧ tooEarly.inArmWindow = true ∧ tooEarly.free ∧ tooEarly.causePending = false ∧
    tooEarly.turn.move = .foreground := by
  refine ⟨⟨rfl, rfl, ?_⟩, by decide, ⟨⟨rfl, rfl, rfl, rfl⟩, rfl, rfl⟩, by decide, by decide⟩
  simp [State.inPhase, State.released, State.free, State.quiet, tooEarly, onTurn, s0, State.resetWith]

theorem witness_StalledBusHangs_busy :
    let s := onTurn { s0 with fg := 13, lpm := true, bus := .rxActive } (.peripheral (.other .nack))
    s.par.nackPolicy = .ignore ∧ fgReserved s.fg = false ∧ s.ivConsistent = true ∧ s.lpm = true ∧
    s.ifg.rxFull = false ∧ s.ifg.txEmpty = false ∧ isBusStep s.turn.move = false ∧ s.periphBusy = true := by decide
theorem witness_StalledBusHangs_poll :
    let s := onTurn { u0 with fg := 10, bus := .txActive, ctl := { s0.ctl with txstp := true } } .foreground
    s.polling = true ∧ s.ctl.txstp = true ∧ s.statusReserved = false ∧ s.ivConsistent = true ∧ s.ifg.rxFull = false ∧
    isBusStep s.turn.move = false := by decide
theorem witness_StalledBusHangs :
    let s : State := { s0 with fg := 13, lpm := true, bus := .rxActive, rxSrc := [] }
    s.par.nackPolicy = .ignore ∧ fgReserved s.fg = false ∧ s.ivConsistent = true ∧ s.lpm = true ∧
    s.ifg.rxFull = false ∧ s.ifg.txEmpty = false ∧ s.periphBusy = false := by decide

/-- A `READ` that has been woken; its second stop has completed (is still pending). -/
def readDone : State := onTurn { a0 with fg := 13, direction := .read, rxCursor := 2 } .foreground
def readReleasing : State :=
  { readDone with
    bus := .rxStopping
    ctl := { s0.ctl with txstp := true } }

/-- A `READ` that `Surface` has aborted in phase 1, about to return. -/
def readAborted : State :=
  onTurn { u0 with par := { params .surface with settleCoversStop := true }, fg := 8, status := 1 } .foreground

theorem witness_StopCoveredBeforeReturn_aborted :
    (readAborted.par.settleCoversStop = true ∧ readAborted.fg = Fg.r1Settle ∧
     readAborted.par.nackPolicy = .surface ∧ readAborted.status ≠ Status.ok) ∧
    stepsTo readAborted (fun t => decide (t.fg = Fg.idle)) = true ∧
    stepsTo { readAborted with ctl := { s0.ctl with txstp := true } } (fun t => decide (t.fg = Fg.r1Settle)) = true := by
  decide
theorem witness_StopCoveredBeforeReturn_completed :
    readDone.protocol ∧ readDone.par.settleCoversStop = true ∧ readDone.fg = Fg.r2Settle ∧
    ∃ t, step readDone = .next t ∧ t.fg = Fg.idle := by
  refine ⟨⟨rfl, rfl, ?_⟩, rfl, rfl, ?_⟩
  · simp [State.inPhase, State.receiveDone, State.released, State.free, State.quiet, readDone, onTurn, a0, s0,
      State.resetWith]
  · obtain ⟨t, h, p⟩ := stepsTo_next _ (fun t => decide (t.fg = Fg.idle)) (by decide : stepsTo readDone _ = true)
    exact ⟨t, h, by simpa using p⟩
theorem witness_StopCoveredBeforeReturn_pending :
    readReleasing.protocol ∧ readReleasing.par.settleCoversStop = true ∧ readReleasing.fg = Fg.r2Settle ∧
    readReleasing.ctl.txstp = true ∧ ∃ t, step readReleasing = .next t := by
  refine ⟨⟨rfl, rfl, ?_⟩, rfl, rfl, rfl, ?_⟩
  · simp [State.inPhase, State.receiveDone, State.released, State.releasing, State.quiet, readReleasing, readDone, onTurn,
      a0, s0, State.resetWith]
  · obtain ⟨t, h, _⟩ := stepsTo_next _ (fun _ => true) (by decide : stepsTo readReleasing _ = true)
    exact ⟨t, h⟩

theorem witness_WriteAccepted :
    (onTurn { s0 with cmds := [0x00603] } .foreground).protocol ∧
    (onTurn { s0 with cmds := [0x00603] } .foreground).accepts (.write 0x06 0x03) :=
  ⟨protocol_s0 _ _, rfl, rfl, rfl, rfl, 0x00603, [], rfl, by decide⟩
theorem witness_ReadAccepted :
    (onTurn { s0 with cmds := [0x10500] } .foreground).protocol ∧
    Memory.wf (onTurn { s0 with cmds := [0x10500] } .foreground).rxBuf = true ∧
    (onTurn { s0 with cmds := [0x10500] } .foreground).accepts (.read 0x05) :=
  ⟨protocol_s0 _ _, rfl, rfl, rfl, rfl, rfl, 0x10500, [], rfl, by decide⟩

/-- A `WRITE 0x06, 0x03` about to return. -/
def writeAtEnd : State :=
  onTurn
    { s0 with
      fg := 4
      addrByte := 0x06
      dataByte := 0x03
      wakeCount := 1
      txLog := [.startW, .byte 0x06, .byte 0x03, .stop] } .foreground

theorem witness_WriteGuarantees_sending : armed.writeCall 0x06 0x03 [] 0 [] := by
  refine ⟨rfl, rfl, rfl, rfl, rfl, rfl, .inr (.inr (.inl ⟨rfl, rfl, rfl, .inl ?_⟩))⟩
  exact ⟨rfl, rfl, rfl, .inl ⟨rfl, rfl, rfl, rfl, rfl, rfl⟩⟩
theorem witness_WriteGuarantees_returning :
    writeAtEnd.writeCall 0x06 0x03 [] 0 [] ∧
    ∃ t, step writeAtEnd = .next t ∧ t.fg = Fg.idle ∧ t.responses = [.written none] := by
  refine ⟨⟨rfl, rfl, rfl, rfl, rfl, rfl, .inr (.inr (.inr (.inr ⟨rfl, rfl, rfl, ?_⟩)))⟩, ?_⟩
  · exact ⟨rfl, ⟨rfl, rfl, rfl, rfl⟩, .inr ⟨rfl, rfl, rfl⟩⟩
  · obtain ⟨t, h, p⟩ := stepsTo_next _ (fun t => decide (t.fg = Fg.idle ∧ t.responses = [.written none]))
      (by decide : stepsTo writeAtEnd _ = true)
    exact ⟨t, h, by simpa using p⟩

/-- A `READ 0x05` about to return 0x11, 0x22, 0x33, its last stop still pending. -/
def readAtEnd : State :=
  onTurn
    { s0 with
      fg := 13
      direction := .read
      dataByte := 0x05
      rxCursor := 2
      wakeCount := 2
      bus := .rxStopping
      ctl := { s0.ctl with txstp := true }
      rxBuf := [(0, 0x11), (1, 0x22), (2, 0x33)]
      rxSrc := []
      txLog := [.startW, .byte 0x05, .stop, .startR] } .foreground

theorem witness_ReadGuarantees_returning :
    readAtEnd.readCall 0x05 [] [0x11, 0x22, 0x33] 0 [] ∧
    ∃ t, step readAtEnd = .next t ∧ t.fg = Fg.idle ∧ t.responses = [.bytes 0x11 0x22 0x33 none] := by
  refine ⟨⟨rfl, rfl, rfl, rfl, rfl, rfl, ?_⟩, ?_⟩
  · refine .inr (.inr (.inr (.inr (.inr (.inr (.inr (.inr (.inr (.inr ⟨rfl, rfl, rfl, ?_⟩)))))))))
    exact ⟨rfl, rfl, rfl, rfl, ⟨rfl, rfl, rfl, rfl⟩, rfl, .inl ⟨rfl, rfl, rfl⟩⟩
  · obtain ⟨t, h, p⟩ := stepsTo_next _
      (fun t => decide (t.fg = Fg.idle ∧ t.responses = [.bytes 0x11 0x22 0x33 none]))
      (by decide : stepsTo readAtEnd _ = true)
    exact ⟨t, h, by simpa using p⟩
theorem witness_ReadGuarantees_polling :
    State.readCall { s0 with fg := 5, direction := .read, dataByte := 0x05, txRemaining := 1 } 0x05 []
      [0x11, 0x22, 0x33] 0 [] :=
  ⟨rfl, rfl, rfl, rfl, rfl, rfl, .inl ⟨rfl, rfl, rfl, rfl, rfl, rfl, .inl ⟨⟨⟨rfl, rfl, rfl, rfl⟩, rfl, rfl⟩, rfl⟩⟩⟩

theorem witness_WriteReturns :
    let s : State := { s0 with cmds := [mkCmd 0 0x06 0x03], sched := writeTurns ++ [] }
    s.protocol ∧ s.free ∧ s.fg = Fg.idle ∧ s.ctl.swrst = false ∧ s.ie.txEmpty = true ∧ s.causePending = false ∧
    s.cmds = mkCmd 0 0x06 0x03 :: [] ∧ s.sched = writeTurns ++ [] :=
  ⟨protocol_s0 _ _, ⟨⟨rfl, rfl, rfl, rfl⟩, rfl, rfl⟩, rfl, rfl, rfl, by decide, rfl, rfl⟩

/-! Armed, and the end of a run. -/

theorem witness_ArmedInterval_arm :
    (onTurn arming .foreground).protocol ∧ (onTurn arming .foreground).armed = false ∧
    stepsTo (onTurn arming .foreground) State.armed = true :=
  ⟨protocol_arming _, by decide⟩
/-- The `wake()` of `witness_LostWakeUp_transmit` and the `*_SLEEP` after it. -/
theorem witness_ArmedInterval_lost :
    txEarly.armed = true ∧ txEarly.interruptEnabled = true ∧ stepsTo txEarly (fun t => !t.armed) = true ∧
    tooEarly.armed = false ∧ stepsTo tooEarly (fun t => t.armed && t.lpm) = true := by decide
theorem witness_ArmedInterval_asleep :
    (let s := onTurn (txPending { s0 with fg := 4, lpm := true }) .interrupt
     s.lpm = true ∧ s.inArmWindow = false ∧ stepsTo s (fun t => !t.armed) = true) ∧
    (let s := onTurn { u0 with fg := 4, lpm := true, ifg := { u0.ifg with nack := true }, iv := Ev.nack } .interrupt
     s.lpm = true ∧ s.inArmWindow = false ∧ stepsTo s (fun t => !t.armed) = true) := by decide
/-- Under `Surface`, a receive that was aborted without a stop leaves a byte over: its tier issues a stop while the next
`WRITE` stands before its `*_SLEEP`, and completes; the `WRITE` is armed all the time (R37). -/
theorem witness_ArmedInterval_leftover :
    (let s := onTurn (rxPending { u0 with fg := 3, bus := .rxActive, rxRemaining := 2 }) .interrupt
     s.armed = true ∧ s.lpm = false ∧ stepsTo s (fun t => t.ctl.txstp && t.armed) = true) ∧
    (let s := onTurn (rxPending { u0 with fg := 3, bus := .rxStopping, rxRemaining := 1, rxCursor := 1 }) .interrupt
     s.armed = true ∧ s.lpm = false ∧ stepsTo s (fun t => decide (t.rxRemaining = 0) && t.armed) = true) := by decide
theorem witness_ArmedInterval_protocol :
    armed.protocol ∧ armed.inArmWindow = true ∧ (armed.armed = true ↔ armed.transmitting ∨ armed.receiving) :=
  ⟨protocol_armed, by decide, by
    simp [State.transmitting, State.armed, State.inArmWindow, armed, arming, a0, s0, State.resetWith]⟩
theorem witness_CommandsAnsweredOnce_step :
    (stepsTo (onTurn s0 (.host 7)) (fun _ => true) = true ∧ presents (.host 7) [7, 8] [8]) ∧
    stepsTo (onTurn { s0 with fg := 4 } .foreground) (fun t => decide (t.responses.length = 1)) = true ∧
    presents .foreground [7] [7] :=
  ⟨⟨by decide, rfl⟩, by decide, rfl⟩

/-- `n` steps of a run, with the words the host has still to present. -/
def play (n : Nat) (s : State) (h : List CmdWord) : Option (State × List CmdWord) :=
  match n with
  | 0 => some (s, h)
  | k + 1 =>
    match step s, s.turn.move, h with
    | .next t, .host w, x :: xs => if w = x then play k t xs else none
    | .next t, .foreground, h => play k t h
    | .next t, .interrupt, h => play k t h
    | .next t, .peripheral _, h => play k t h
    | _, _, _ => none

theorem inRun_play (p : Params) (src : List Byte) (ws : List CmdWord) (n : Nat) (s t : State) (h h' : List CmdWord)
    (hr : InRun p src ws s h) (hp : play n s h = some (t, h')) : InRun p src ws t h' := by
  induction n generalizing s h with
  | zero => cases hp; exact hr
  | succ k ih =>
    simp only [play] at hp
    split at hp
    · next e m =>
      split at hp
      · next hw => exact ih _ _ (.extend _ _ _ _ hr e (by simp [presents, m, hw])) hp
      · cases hp
    · next e m => exact ih _ _ (.extend _ _ _ _ hr e (by simp [presents, m])) hp
    · next e m => exact ih _ _ (.extend _ _ _ _ hr e (by simp [presents, m])) hp
    · next e m => exact ih _ _ (.extend _ _ _ _ hr e (by simp [presents, m])) hp
    · cases hp

/-- The run of one `WRITE 0x06, 0x03` ends. -/
theorem witness_CommandsAnsweredOnce_end :
    (params .ignore).nackPolicy = .ignore ∧
    ∃ t h, InRun (params .ignore) [] [0x00603] t h ∧ t.ended h = true := by
  refine ⟨rfl, ?_⟩
  have hd : (match play 13 { (State.resetWith (params .ignore) []).bootConfig with
      sched := ⟨.host 0x00603, 0⟩ :: writeTurns ++ [⟨.peripheral .txStop, 0⟩], freeCount := 0 } [0x00603] with
      | some (t, h) => t.ended h
      | none => false) = true := by decide
  split at hd
  · next t h e => exact ⟨t, h, inRun_play _ _ _ _ _ _ _ _ (.start _ _) e, hd⟩
  · cases hd

end Sys2Proof.Tests
end

section
/-! Proofs: an event code and the rule it decodes to, read backwards (R62, R66). -/

namespace Sys2Proof

/-- The rule selected by an event code is one of that code (R62). -/
theorem encode_decodeEvent (c : EventCode) (tx rx : Counter) : encode (decodeEvent c tx rx) = .event c := by
  rcases EventCode.cases c with rfl | rfl | rfl | rfl | rfl | rfl | rfl | rfl
  · rfl
  · rfl
  · rfl
  · rfl
  · rfl
  · rw [decodeEvent_rxFull]
    split_ifs <;> rfl
  · rw [decodeEvent_txEmpty]
    split_ifs <;> rfl
  · rfl

/-- The counters select the rule that they decode to (R66). -/
theorem selectedBy_decodeEvent (c : EventCode) (tx rx : Counter) : (decodeEvent c tx rx).selectedBy tx rx = true := by
  rcases EventCode.cases c with rfl | rfl | rfl | rfl | rfl | rfl | rfl | rfl
  · rfl
  · rfl
  · rfl
  · rfl
  · rfl
  · rw [decodeEvent_rxFull]
    split_ifs <;> simp only [Instr.selectedBy, decide_eq_true_eq] <;> bv_omega
  · rw [decodeEvent_txEmpty]
    split_ifs <;> simp only [Instr.selectedBy, decide_eq_true_eq] <;> bv_omega
  · rfl

theorem decodeEvent_eq_txDone_iff (c : EventCode) (tx rx : Counter) :
    decodeEvent c tx rx = .txDone ↔ c = Ev.txEmpty ∧ tx = 0 := by
  refine ⟨fun h => ?_, fun ⟨hc, ht⟩ => hc ▸ decodeEvent_txDone tx rx ht⟩
  have hc := encode_decodeEvent c tx rx
  have ht := selectedBy_decodeEvent c tx rx
  rw [h] at hc ht
  exact ⟨(Code.event.inj hc).symm, of_decide_eq_true ht⟩

theorem decodeEvent_eq_rxLast_iff (c : EventCode) (tx rx : Counter) :
    decodeEvent c tx rx = .rxLast ↔ c = Ev.rxFull ∧ rx ≤ 1 := by
  refine ⟨fun h => ?_, fun ⟨hc, hr⟩ => hc ▸ decodeEvent_rxLast tx rx hr⟩
  have hc := encode_decodeEvent c tx rx
  have hr := selectedBy_decodeEvent c tx rx
  rw [h] at hc hr
  exact ⟨(Code.event.inj hc).symm, of_decide_eq_true hr⟩

end Sys2Proof
end

section
/-! Proofs: selecting the operation of a turn (R65, R67, R169). What a turn selects does not depend on the turn having
been drawn, and each way of selecting is one equation of `fetch`. -/

namespace Sys2Proof.Machine

@[simp] theorem State.aborted_takeTurn (s : State) : s.takeTurn.aborted = s.aborted := by
  simp [State.aborted, State.surface]

@[simp] theorem State.returnHeld_takeTurn (s : State) : s.takeTurn.returnHeld = s.returnHeld := by
  simp [State.returnHeld, State.returnsRead]

@[simp] theorem State.interruptEnabled_takeTurn (s : State) : s.takeTurn.interruptEnabled = s.interruptEnabled := by
  simp [State.interruptEnabled, State.causePending, State.pending, State.inArmWindow, State.dataEvent]

@[simp] theorem State.bootDue_takeTurn (s : State) : s.takeTurn.bootDue = s.bootDue := by
  simp [State.bootDue]

/-- `IDLE` is no `*_ARM` and no completing tier. -/
@[simp] theorem State.noteWake_idle (s : State) : s.noteWake .idle = s := rfl

theorem State.popCmd_of_cons (s : State) (w : CmdWord) (ws : List CmdWord) (h : s.cmds = w :: ws) :
    s.popCmd = { s with cmds := ws } := by
  simp [State.popCmd, h]

/-! ### One equation of `fetch` for each way of selecting -/

theorem State.fetch_foreground_position (s : State) (hl : s.lpm = false) (hi : s.fg ≠ Fg.idle)
    (hh : s.returnHeld = false) : s.fetch .foreground = some (decodePosition s.fg, s) := by
  simp only [State.fetch, State.fetchForeground, hl, hi, hh, Bool.false_eq_true, if_false]

theorem State.fetch_foreground_command (s : State) (w : CmdWord) (ws : List CmdWord) (hl : s.lpm = false)
    (hi : s.fg = Fg.idle) (hr : s.ctl.swrst = false) (hc : s.cmds = w :: ws) :
    s.fetch .foreground = some (decodeCommand w, s.popCmd) := by
  simp [State.fetch, State.fetchForeground, hl, hi, hr, hc]

theorem State.fetch_foreground_idle (s : State) (hl : s.lpm = false) (hi : s.fg = Fg.idle)
    (hr : s.ctl.swrst = false) (hc : s.cmds = []) : s.fetch .foreground = some (.idle, s) := by
  simp [State.fetch, State.fetchForeground, hl, hi, hr, hc]

theorem State.fetch_foreground_suspended (s : State) (hl : s.lpm = true) : s.fetch .foreground = none := by
  simp [State.fetch, State.fetchForeground, hl]

theorem State.fetch_foreground_held (s : State) (hi : s.fg ≠ Fg.idle) (hh : s.returnHeld = true) :
    s.fetch .foreground = none := by
  simp only [State.fetch, State.fetchForeground, hi, hh, if_false, if_true, ite_self]

theorem State.fetch_interrupt_enabled (s : State) (h : s.interruptEnabled = true) :
    s.fetch .interrupt = some (decodeEvent s.iv s.txRemaining s.rxRemaining, s) := by
  simp [State.fetch, State.takeInterrupt, h]

theorem State.fetch_interrupt_disabled (s : State) (h : s.interruptEnabled = false) : s.fetch .interrupt = none := by
  simp [State.fetch, h]

/-- Nothing but a boot sequence that is due lets a foreground turn without an operation change the state. -/
theorem State.environment_foreground (s : State) (h : s.bootDue = false) : s.environment .foreground = s := by
  simp [State.environment, h]

/-! ### The two statements -/

/-- Settles O6: each of the four ways of selecting is an equation of `fetch`. -/
theorem stepRunsTheSelectedOperation : Obligations.StepRunsTheSelectedOperation := by
  intro s hfg hst
  refine ⟨fun hm hl hi hh => ?_, fun w ws hm hl hi hr hc => ?_, fun hm hl hi hr hc => ?_, fun hm he => ?_⟩
  · have hf : s.takeTurn.fetch s.turn.move = some (decodePosition s.fg, s.takeTurn) := by
      simpa [hm] using State.fetch_foreground_position s.takeTurn (by simpa using hl) (by simpa using hi)
        (by simpa using hh)
    simp only [step_of_fetch s _ _ hfg hst hf, State.endTurn_eq]
  · have hc' : s.takeTurn.cmds = w :: ws := by simpa using hc
    have hf : s.takeTurn.fetch s.turn.move = some (decodeCommand w, { s.takeTurn with cmds := ws }) := by
      rw [hm, ← State.popCmd_of_cons s.takeTurn w ws hc']
      exact State.fetch_foreground_command s.takeTurn w ws (by simpa using hl) (by simpa using hi)
        (by simpa using hr) hc'
    simp only [step_of_fetch s _ _ hfg hst hf, State.endTurn_eq, State.noteWake_command]
  · have hf : s.takeTurn.fetch s.turn.move = some (.idle, s.takeTurn) := by
      rw [hm]
      exact State.fetch_foreground_idle s.takeTurn (by simpa using hl) (by simpa using hi) (by simpa using hr)
        (by simpa using hc)
    simp only [step_of_fetch s _ _ hfg hst hf, State.endTurn_eq, State.noteWake_idle]
  · have hf : s.takeTurn.fetch s.turn.move =
        some (decodeEvent s.iv s.txRemaining s.rxRemaining, s.takeTurn) := by
      simpa [hm] using State.fetch_interrupt_enabled s.takeTurn (by simpa using he)
    simp only [step_of_fetch s _ _ hfg hst hf, State.endTurn_eq]

/-- Settles O7: these turns fetch nothing, and what is left is what `environment` says of their agent. -/
theorem stepWithoutOperation : Obligations.StepWithoutOperation := by
  refine ⟨fun s => rfl, fun s hfg hst => ?_⟩
  have hstep (m : Move) (hm : s.turn.move = m) (hf : s.takeTurn.fetch m = none) :
      step s = .next ((s.takeTurn.environment m).latchIv s.turn.ivPick) := by
    subst hm
    rw [step_of_no_fetch s hfg hst hf, State.endTurn_eq]
  refine ⟨fun p hm => ?_, fun w hm => ?_, fun hm he => ?_, fun hm hl => ?_, fun hm hi hh => ?_⟩
  · exact hstep _ hm rfl
  · simpa [State.environment, State.pushCmd] using hstep _ hm rfl
  · exact hstep _ hm (State.fetch_interrupt_disabled _ (by simpa using he))
  · have hb : s.takeTurn.bootDue = false := by simp [State.bootDue, hl]
    simpa only [State.environment_foreground _ hb] using
      hstep _ hm (State.fetch_foreground_suspended _ (by simpa using hl))
  · have hb : s.takeTurn.bootDue = false := by
      rw [State.bootDue_takeTurn, State.bootDue, decide_eq_false hi, Bool.and_false, Bool.false_and]
    simpa only [State.environment_foreground _ hb] using
      hstep _ hm (State.fetch_foreground_held _ (by simpa using hi) (by simpa using hh))

end Sys2Proof.Machine
end

section
/-! Proofs: the interval in which a transaction is armed (R9, R37). `armed` reads `lpm`, `fg` and the history `woken`; what
a step does to these is said once, in `step_armedOutcome`. -/

namespace Sys2Proof.Machine

/-! ### Positions and events that begin or end the interval -/

/-- The foreground stands at an `*_ARM` (R112, R122, R127). -/
def State.atArm (s : State) : Prop := s.fg = Fg.wArm ∨ s.fg = Fg.r1Arm ∨ s.fg = Fg.r2Arm

/-- The handler rule that an invocation would run now (R66, R90). -/
abbrev State.selectedEvent (s : State) : Instr := decodeEvent s.iv s.txRemaining s.rxRemaining

/-- The selected rule is the completing tier of the transaction last armed (R103), and runs as such (R166). -/
def State.completesOwn (s : State) : Bool :=
  !s.aborted && ((!s.inReceivePhase && decide (s.selectedEvent = .txDone)) ||
    (s.inReceivePhase && decide (s.selectedEvent = .rxLast)))

/-- The selected rule ends a suspension: a completing tier (R103, R166), or an error event under `Surface` (R164,
R165). -/
def State.wakesSleeper (s : State) : Bool :=
  (!s.aborted && (decide (s.selectedEvent = .txDone) || decide (s.selectedEvent = .rxLast))) ||
  (s.surface && decide (s.status = Status.ok) && (decide (s.iv = Ev.nack) || decide (s.iv = Ev.arbLost)))

/-- No rule of an "other" cause, and none without a cause, is a completing tier. -/
theorem State.selectedEvent_of_other (s : State) (hr : s.iv ≠ Ev.rxFull) (ht : s.iv ≠ Ev.txEmpty) :
    s.selectedEvent ≠ .txDone ∧ s.selectedEvent ≠ .rxLast :=
  ⟨fun e => ht ((decodeEvent_eq_txDone_iff _ _ _).mp e).1, fun e => hr ((decodeEvent_eq_rxLast_iff _ _ _).mp e).1⟩

theorem State.armed_of_not_inArmWindow (s : State) (h : s.inArmWindow = false) : s.armed = s.lpm := by
  simp [State.armed, h]

theorem State.armed_of_awake (s : State) (h : s.lpm = false) : s.armed = (s.inArmWindow && !s.woken) := by
  simp [State.armed, h]

theorem State.inArmWindow_of_atArm (s : State) (h : s.atArm) : s.inArmWindow = false := by
  rcases h with h | h | h <;> simp [State.inArmWindow, h]

/-- Before the `*_SLEEP`, a receive is told by its position. -/
theorem State.completesOwn_iff_of_inArmWindow (s : State) (h : s.inArmWindow = true) :
    s.completesOwn = true ↔ s.aborted = false ∧
      ((s.fg ≠ Fg.r2Sleep ∧ s.selectedEvent = .txDone) ∨ (s.fg = Fg.r2Sleep ∧ s.selectedEvent = .rxLast)) := by
  have hr : s.inReceivePhase = decide (s.fg = Fg.r2Sleep) := by
    simp only [State.inArmWindow, Bool.or_eq_true, decide_eq_true_eq] at h
    rcases h with (h | h) | h <;> simp [State.inReceivePhase, h]
  by_cases hf : s.fg = Fg.r2Sleep <;> simp [State.completesOwn, hr, hf]

theorem State.wakesSleeper_iff (s : State) :
    s.wakesSleeper = true ↔
      (s.aborted = false ∧ (s.selectedEvent = .txDone ∨ s.selectedEvent = .rxLast)) ∨
      (s.par.nackPolicy = .surface ∧ s.status = Status.ok ∧ (s.iv = Ev.nack ∨ s.iv = Ev.arbLost)) := by
  simp [State.wakesSleeper, State.surface, and_assoc]

/-! ### What the operations do to `fg`, `lpm` and `woken` -/

/-- An accepted command leads to the first `*_POLL` of its driver (R80, R81). -/
theorem exec_command_fg (s v : State) (w : CmdWord) (h : exec (decodeCommand w) s = .next v) :
    (v.fg = Fg.wPoll ∨ v.fg = Fg.r1Poll) ∧ v.lpm = s.lpm := by
  unfold decodeCommand at h
  split at h <;> cases h <;> simp

/-- A micro-operation starts a transaction, suspends the foreground, or stays outside the interval. -/
theorem exec_position_armed (s v : State) (hl : s.lpm = false) (hi : s.fg ≠ Fg.idle)
    (h : exec (decodePosition s.fg) s = .next v) :
    (s.atArm ∧ v.inArmWindow = true) ∨
    (s.inArmWindow = true ∧ v.lpm = true ∧ v.inArmWindow = false) ∨
    (¬ s.atArm ∧ s.inArmWindow = false ∧ v.inArmWindow = false ∧ v.lpm = false) := by
  rcases exec_position_cases s v hi h with ⟨e, rfl⟩ | ⟨e, rfl⟩ | ⟨e, rfl⟩ | ⟨e, rfl⟩ | ⟨e, rfl⟩ | ⟨e, rfl⟩ | ⟨e, rfl⟩ |
    ⟨e, _, rfl⟩ | ⟨e, _, rfl⟩ | ⟨e, rfl⟩ | ⟨e, rfl⟩ | ⟨e, rfl⟩ | ⟨e, rfl⟩ | ⟨e, rfl⟩ <;>
    simp [State.atArm, State.inArmWindow, e, hl] <;> split <;> decide

/-- A handler rule leaves the foreground position alone, and a data tier `status` too (R174). -/
theorem exec_event_frame (s v : State) (h : exec s.selectedEvent s = .next v) :
    v.fg = s.fg ∧ v.par = s.par ∧ v.woken = s.woken ∧
    (s.iv = Ev.rxFull ∨ s.iv = Ev.txEmpty → v.status = s.status) := by
  rcases exec_event_cases s v h with ⟨e, _, rfl⟩ | ⟨e, _, _, ⟨_, rfl⟩ | ⟨_, rfl⟩ | ⟨_, rfl⟩⟩ | ⟨e, _, rfl⟩ |
    ⟨e, _, ⟨_, rfl⟩ | ⟨_, rfl⟩ | ⟨_, rfl⟩⟩ | ⟨e, ⟨_, rfl⟩ | ⟨_, rfl⟩⟩ | ⟨e, ⟨_, rfl⟩ | ⟨_, rfl⟩⟩ | ⟨e, rfl⟩ |
    ⟨e, rfl⟩ | ⟨_, rfl⟩ <;> simp_all

theorem State.wakesSleeper_rxFull (s : State) (e : s.iv = Ev.rxFull) :
    s.wakesSleeper = (!s.aborted && decide (s.rxRemaining ≤ 1)) := by
  simp [State.wakesSleeper, decodeEvent_eq_txDone_iff, decodeEvent_eq_rxLast_iff, e]

theorem State.wakesSleeper_txEmpty (s : State) (e : s.iv = Ev.txEmpty) :
    s.wakesSleeper = (!s.aborted && decide (s.txRemaining = 0)) := by
  simp [State.wakesSleeper, decodeEvent_eq_txDone_iff, decodeEvent_eq_rxLast_iff, e]

/-- Error events wake under the condition of `Surface`, which asks for a suspended foreground (R164, R165). -/
theorem State.lpm_and_not_wakesSleeper_of_error (s : State) (e : s.iv = Ev.arbLost ∨ s.iv = Ev.nack) :
    (s.lpm && !s.wakesSleeper) = (s.lpm && !s.surfacesError) := by
  rcases e with e | e <;> cases hl : s.lpm <;>
    simp [State.wakesSleeper, State.surfacesError, decodeEvent_eq_txDone_iff, decodeEvent_eq_rxLast_iff, e, hl]

theorem State.wakesSleeper_of_no_error (s : State)
    (e : s.iv = Ev.start ∨ s.iv = Ev.stop ∨ s.iv = Ev.none ∨ s.iv = Ev.reserved) : s.wakesSleeper = false := by
  rcases e with e | e | e | e <;>
    simp [State.wakesSleeper, decodeEvent_eq_txDone_iff, decodeEvent_eq_rxLast_iff, e]

/-- A handler rule ends a suspension exactly where `wakesSleeper` says (R172). -/
theorem exec_event_lpm (s v : State) (h : exec s.selectedEvent s = .next v) :
    v.lpm = (s.lpm && !s.wakesSleeper) := by
  rcases exec_event_cases s v h with ⟨e, a, rfl⟩ | ⟨e, a, _, hr⟩ | ⟨e, a, rfl⟩ | ⟨e, a, hr⟩ | ⟨e, hk⟩ | ⟨e, hk⟩ |
    ⟨e, rfl⟩ | ⟨e, rfl⟩ | ⟨e, rfl⟩
  · simp [State.wakesSleeper_rxFull s e, a]
  · rw [State.wakesSleeper_rxFull s e, a]
    rcases hr with ⟨r, rfl⟩ | ⟨r, rfl⟩ | ⟨r, rfl⟩
    · have hn : ¬ s.rxRemaining ≤ 1 := by bv_omega
      rw [decide_eq_false hn]; simp
    · simp [r]
    · rw [decide_eq_true r]; simp
  · simp [State.wakesSleeper_txEmpty s e, a]
  · rw [State.wakesSleeper_txEmpty s e, a]
    rcases hr with ⟨r, rfl⟩ | ⟨r, rfl⟩ | ⟨r, rfl⟩
    · have hn : s.txRemaining ≠ 0 := by bv_omega
      rw [decide_eq_false hn]; simp
    · simp [r]
    · simp [r]
  · rw [State.lpm_and_not_wakesSleeper_of_error s (.inl e)]
    rcases hk with ⟨k, rfl⟩ | ⟨k, rfl⟩ <;> simp [k]
  · rw [State.lpm_and_not_wakesSleeper_of_error s (.inr e)]
    rcases hk with ⟨k, rfl⟩ | ⟨k, rfl⟩ <;> simp [k]
  · simp [State.wakesSleeper_of_no_error s (.inl e)]
  · simp [State.wakesSleeper_of_no_error s (.inr (.inl e))]
  · simp [State.wakesSleeper_of_no_error v (.inr (.inr e))]

/-- A handler rule enters in the history that it completed the transaction last armed, and nothing else. -/
theorem exec_event_woken (s v : State) (h : exec s.selectedEvent s = .next v) :
    (v.noteWake s.selectedEvent).woken = (s.woken || s.completesOwn) := by
  obtain ⟨hfg, hpar, hwoken, hstatus⟩ := exec_event_frame s v h
  rw [State.noteWake_event_woken, hwoken, State.completesOwn]
  have hphase : v.inReceivePhase = s.inReceivePhase := by simp [State.inReceivePhase, hfg]
  by_cases hd : s.iv = Ev.rxFull ∨ s.iv = Ev.txEmpty
  · have ha : v.aborted = s.aborted := by simp [State.aborted, State.surface, hpar, hstatus hd]
    rw [hphase, ha]
  · obtain ⟨hr, ht⟩ := not_or.mp hd
    obtain ⟨htx, hrx⟩ := State.selectedEvent_of_other s hr ht
    simp [htx, hrx]

/-! ### What a step does to the interval -/

@[simp] theorem State.selectedEvent_takeTurn (s : State) : s.takeTurn.selectedEvent = s.selectedEvent := by
  simp [State.selectedEvent]

@[simp] theorem State.completesOwn_takeTurn (s : State) : s.takeTurn.completesOwn = s.completesOwn := by
  simp [State.completesOwn, State.inReceivePhase]

@[simp] theorem State.wakesSleeper_takeTurn (s : State) : s.takeTurn.wakesSleeper = s.wakesSleeper := by
  simp [State.wakesSleeper, State.surface]

@[simp] theorem State.inArmWindow_takeTurn (s : State) : s.takeTurn.inArmWindow = s.inArmWindow := by
  simp [State.inArmWindow]

theorem State.atArm_takeTurn (s : State) : s.takeTurn.atArm ↔ s.atArm := by
  simp [State.atArm]

@[simp] theorem State.inArmWindow_latchIv (s : State) (n : Nat) : (s.latchIv n).inArmWindow = s.inArmWindow := rfl

theorem State.inArmWindow_congr (s t : State) (h : t.fg = s.fg) : t.inArmWindow = s.inArmWindow := by
  simp [State.inArmWindow, h]

/-- The history, once an `*_ARM` has run, says that nothing has completed. -/
theorem State.noteWake_atArm_woken (s u : State) (h : s.atArm) : (u.noteWake (decodePosition s.fg)).woken = false := by
  rcases h with h | h | h <;> simp [State.noteWake_position_woken, h]

/-- Everything a turn of the peripheral can do (R138 to R143, R145). -/
theorem State.periphStep_cases (s : State) (p : PeriphStep) :
    s.periphStep p = s ∨
    (s.ctl.txstt = true ∧ s.ctl.txstp = false ∧ s.bus = .busIdle ∧ s.periphStep p = s.pStart) ∨
    (s.bus = .txActive ∧ s.txbufFull = true ∧ s.periphStep p = s.pTxTake) ∨
    (s.bus = .rxActive ∧ s.ifg.rxFull = false ∧
      ∃ v rest, s.rxSrc = v :: rest ∧ s.periphStep p = s.deliver v rest) ∨
    (((s.bus = .txActive ∧ s.ctl.txstp = true ∧ s.txbufFull = false) ∨ s.bus = .rxStopping) ∧
      s.periphStep p = s.completeStop) ∨
    ∃ e, s.periphStep p = s.raiseOther e := by
  cases he : s.periphEnabled p with
  | false => exact .inl (by simp [State.periphStep, he])
  | true =>
    right
    have hd : s.periphStep p = s.periphDo p := by simp [State.periphStep, he]
    rw [hd]
    cases p with
    | start =>
      obtain ⟨-, ⟨hstt, hstp⟩, hbus⟩ : _ ∧ (_ ∧ _) ∧ _ := by simpa [State.periphEnabled] using he
      exact .inl ⟨hstt, hstp, hbus, rfl⟩
    | txTake =>
      obtain ⟨-, hbus, hfull⟩ : _ ∧ _ ∧ _ := by simpa [State.periphEnabled] using he
      exact .inr (.inl ⟨hbus, hfull, rfl⟩)
    | txStop =>
      obtain ⟨-, ⟨hbus, hstp⟩, hfull⟩ : _ ∧ (_ ∧ _) ∧ _ := by simpa [State.periphEnabled] using he
      exact .inr (.inr (.inr (.inl ⟨.inl ⟨hbus, hstp, hfull⟩, rfl⟩)))
    | rxByte =>
      obtain ⟨-, ⟨hbus, hfull⟩, hsrc⟩ : _ ∧ (_ ∧ _) ∧ _ := by simpa [State.periphEnabled] using he
      obtain ⟨v, rest, hs⟩ := List.exists_cons_of_ne_nil hsrc
      exact .inr (.inr (.inl ⟨hbus, hfull, v, rest, hs, by simp [State.periphDo, State.pRxByte, hs]⟩))
    | rxStop =>
      obtain ⟨-, hbus⟩ : _ ∧ _ := by simpa [State.periphEnabled] using he
      exact .inr (.inr (.inr (.inl ⟨.inr hbus, rfl⟩)))
    | other e => exact .inr (.inr (.inr (.inr ⟨e, rfl⟩)))

/-- No step of the peripheral touches what `armed` reads. -/
theorem State.periphStep_armed_fields (s : State) (p : PeriphStep) :
    (s.periphStep p).fg = s.fg ∧ (s.periphStep p).lpm = s.lpm ∧ (s.periphStep p).woken = s.woken := by
  rcases State.periphStep_cases s p with e | ⟨-, -, -, e⟩ | ⟨-, -, e⟩ | ⟨-, -, v, rest, -, e⟩ | ⟨-, e⟩ | ⟨x, e⟩ <;>
    simp [e]

/-- Everything the step from `s` to `t` can do to what `armed` reads. -/
inductive ArmedOutcome (s t : State) : Prop where
  /-- An `*_ARM` runs: the interval begins. -/
  | arms (hm : s.turn.move = .foreground) (hl : s.lpm = false) (ha : s.atArm) (hw : t.inArmWindow = true)
    (hk : t.woken = false)
  /-- A `*_SLEEP` runs: the foreground is suspended. -/
  | suspends (hm : s.turn.move = .foreground) (hl : s.lpm = false) (hs : s.inArmWindow = true) (ht : t.lpm = true)
    (hw : t.inArmWindow = false)
  /-- The foreground runs outside the interval, and stays there. -/
  | outside (hm : s.turn.move = .foreground) (hl : s.lpm = false) (ha : ¬ s.atArm) (hs : s.inArmWindow = false)
    (ht : t.lpm = false) (hw : t.inArmWindow = false)
  /-- One handler rule runs. -/
  | handles (hm : s.turn.move = .interrupt) (he : s.interruptEnabled = true) (hf : t.fg = s.fg)
    (ht : t.lpm = (s.lpm && !s.wakesSleeper)) (hk : t.woken = (s.woken || s.completesOwn))
  /-- Any other turn. -/
  | keeps (hn : ¬ (s.turn.move = .interrupt ∧ s.interruptEnabled = true))
    (hp : s.turn.move = .foreground → s.lpm = false → ¬ s.atArm ∧ s.inArmWindow = false) (hf : t.fg = s.fg)
    (ht : t.lpm = s.lpm) (hk : t.woken = s.woken)

theorem State.outside_of_idle (s : State) (h : s.fg = Fg.idle) : ¬ s.atArm ∧ s.inArmWindow = false := by
  simp [State.atArm, State.inArmWindow, h]

/-- A foreground turn that fetches nothing while `lpm = 0` is the boot's, or holds back the return of a `READ`. -/
theorem State.outside_of_no_fetch (s : State) (h : s.fetchForeground = none) (hl : s.lpm = false) :
    ¬ s.atArm ∧ s.inArmWindow = false := by
  by_cases hi : s.fg = Fg.idle
  · exact State.outside_of_idle s hi
  · cases hh : s.returnHeld with
    | false => cases (State.fetch_foreground_position s hl hi hh).symm.trans h
    | true =>
      have hr : s.fg = Fg.r2Settle ∨ s.fg = Fg.r1Settle := by
        simp only [State.returnHeld, State.returnsRead, Bool.and_eq_true, Bool.or_eq_true, decide_eq_true_eq] at hh
        tauto
      rcases hr with e | e <;> simp [State.atArm, State.inArmWindow, e]

theorem armedOutcome_command (s v : State) (w : CmdWord) (hm : s.turn.move = .foreground) (hl : s.lpm = false)
    (hf : s.fg = Fg.idle) (h : exec (decodeCommand w) s.takeTurn.popCmd = .next v) : ArmedOutcome s v := by
  obtain ⟨ha, hs⟩ := State.outside_of_idle s hf
  obtain ⟨hfg, hlpm⟩ := exec_command_fg _ v w h
  refine .outside hm hl ha hs (by simpa [hl] using hlpm) ?_
  rcases hfg with e | e <;> simp [State.inArmWindow, e]

theorem armedOutcome_position (s u : State) (hm : s.turn.move = .foreground) (hl : s.lpm = false)
    (hi : s.fg ≠ Fg.idle) (h : exec (decodePosition s.takeTurn.fg) s.takeTurn = .next u) :
    ArmedOutcome s (u.noteWake (decodePosition s.takeTurn.fg)) := by
  have hnw : (u.noteWake (decodePosition s.takeTurn.fg)).inArmWindow = u.inArmWindow :=
    State.inArmWindow_congr _ _ (by simp)
  have hw := State.inArmWindow_takeTurn s
  have ha := State.atArm_takeTurn s
  rcases exec_position_armed _ u (by simpa using hl) (by simpa using hi) h with
    ⟨h1, h2⟩ | ⟨h1, h2, h3⟩ | ⟨h1, h2, h3, h4⟩
  · exact .arms hm hl (ha.mp h1) (hnw.trans h2) (State.noteWake_atArm_woken _ u h1)
  · exact .suspends hm hl (hw ▸ h1) (by simpa using h2) (hnw.trans h3)
  · exact .outside hm hl (mt ha.mpr h1) (hw ▸ h2) (by simpa using h4) (hnw.trans h3)

theorem armedOutcome_event (s u : State) (hm : s.turn.move = .interrupt) (he : s.interruptEnabled = true)
    (h : exec s.takeTurn.selectedEvent s.takeTurn = .next u) :
    ArmedOutcome s (u.noteWake s.takeTurn.selectedEvent) := by
  obtain ⟨hfg, -⟩ := exec_event_frame _ u h
  exact .handles hm he (by simpa using hfg) (by simpa using exec_event_lpm _ u h)
    (by simpa using exec_event_woken _ u h)

theorem ArmedOutcome.latchIv {s v : State} (h : ArmedOutcome s v) (n : Nat) : ArmedOutcome s (v.latchIv n) := by
  cases h with
  | arms hm hl ha hw hk => exact .arms hm hl ha hw hk
  | suspends hm hl hs ht hw => exact .suspends hm hl hs ht hw
  | outside hm hl ha hs ht hw => exact .outside hm hl ha hs ht hw
  | handles hm he hf ht hk => exact .handles hm he hf ht hk
  | keeps hn hp hf ht hk => exact .keeps hn hp hf ht hk

theorem step_armedOutcome (s t : State) (h : step s = .next t) : ArmedOutcome s t := by
  obtain ⟨v, rfl, ⟨hm, hl, hf, -, ⟨-, rfl⟩ | ⟨w, ws, -, hv⟩⟩ | ⟨hm, hl, hi, -, u, hu, rfl⟩ | ⟨hm, hb, rfl⟩ |
    ⟨hm, -, hn, rfl⟩ | ⟨hm, he, u, hu, rfl⟩ | ⟨hm, he, rfl⟩ | ⟨p, hm, rfl⟩ | ⟨w, hm, rfl⟩⟩ := step_outcomes s t h <;>
    apply ArmedOutcome.latchIv
  · exact .keeps (by simp [hm]) (fun _ _ => State.outside_of_idle s hf) (by simp) (by simp) (by simp)
  · exact armedOutcome_command s v w hm hl hf hv
  · exact armedOutcome_position s u hm hl hi hu
  · have hf : s.fg = Fg.idle := by
      obtain ⟨⟨-, hf⟩, -⟩ := by simpa only [State.bootDue, Bool.and_eq_true, decide_eq_true_eq] using hb
      exact hf
    exact .keeps (by simp [hm]) (fun _ _ => State.outside_of_idle s hf) (by simp) (by simp) (by simp)
  · have ho (hl : s.lpm = false) : ¬ s.atArm ∧ s.inArmWindow = false := by
      simpa [State.atArm_takeTurn] using State.outside_of_no_fetch _ hn (by simpa using hl)
    exact .keeps (by simp [hm]) (fun _ => ho) (by simp) (by simp) (by simp)
  · exact armedOutcome_event s u hm he hu
  · exact .keeps (by simp [he]) (by simp [hm]) (by simp) (by simp) (by simp)
  · obtain ⟨h1, h2, h3⟩ := State.periphStep_armed_fields s.takeTurn p
    exact .keeps (by simp [hm]) (by simp [hm]) (by simpa using h1) (by simpa using h2) (by simpa using h3)
  · exact .keeps (by simp [hm]) (by simp [hm]) (by simp) (by simp) (by simp)

end Sys2Proof.Machine
end

section
/-! Proofs: under the protocol, the transaction of an `*_ARM` goes on, before its `*_SLEEP`, exactly while it is
armed. -/

namespace Sys2Proof.Machine

/-- The transaction last armed goes on: its completing tier has not run (R103). -/
def State.goesOn (s : State) : Prop := s.transmitting ∨ s.receiving

theorem State.goesOn_congr (s t : State) (h : s.samePhase t) : t.goesOn ↔ s.goesOn := by
  obtain ⟨-, -, -, e4, e5, e6, e7, e8, e9, e10, e11, e12⟩ := h
  simp only [State.goesOn, State.transmitting, State.receiving, e4, e5, e6, e7, e8, e9, e10, e11, e12]

theorem State.not_goesOn_of_released (s : State) (h : s.released) : ¬ s.goesOn := by
  rcases h with ⟨⟨hr, ht, hb, hs⟩, hbus, hp⟩ | ⟨⟨hr, ht, hb, hs⟩, hbus | hbus, hp⟩ <;>
    simp [State.goesOn, State.transmitting, State.receiving, hr, ht, hb, hs, hbus, hp]

/-! ### Where the foreground stands -/

/-- At an `*_ARM` the bus is free, and at `R2_ARM` the receive counters are set (R82, R110, R120). -/
theorem State.inPhase_atArm (s : State) (h : s.inPhase) (ha : s.atArm) :
    s.free ∧ (s.fg = Fg.r2Arm → s.ctl.tr = false ∧ s.rxRemaining = 3 ∧ s.rxCursor = 0) := by
  rcases ha with e | e | e <;> simp [State.inPhase, e] at h ⊢ <;> tauto

/-- At a `*_SLEEP` the foreground runs, and the transaction armed goes on or has been released. -/
theorem State.inPhase_inArmWindow (s : State) (h : s.inPhase) (hw : s.inArmWindow = true) :
    s.lpm = false ∧ (s.goesOn ∨ s.released) := by
  simp only [State.inArmWindow, Bool.or_eq_true, decide_eq_true_eq] at hw
  rcases hw with (e | e) | e <;>
    simp [State.inPhase, State.goesOn, State.setupDone, State.receiveDone, e] at h ⊢ <;> tauto

/-! ### The peripheral -/

theorem State.transmitting_periphStep (s : State) (p : PeriphStep) (h : s.transmitting) :
    (s.periphStep p).transmitting := by
  rcases State.periphStep_cases s p with e | ⟨h1, h2, h3, e⟩ | ⟨h1, h2, e⟩ | ⟨h1, h2, v, rest, -, e⟩ |
    ⟨⟨h1, h2, h3⟩ | h1, e⟩ | ⟨x, e⟩ <;> rw [e]
  · exact h
  · simp_all [State.transmitting]
  · simp_all [State.transmitting]
  · simp [State.transmitting, h1] at h
  · simp [State.transmitting, h2] at h
  · simp [State.transmitting, h1] at h
  · simpa [State.transmitting] using h

theorem State.receiving_periphStep (s : State) (p : PeriphStep) (h : s.receiving) : (s.periphStep p).receiving := by
  rcases State.periphStep_cases s p with e | ⟨h1, h2, h3, e⟩ | ⟨h1, h2, e⟩ | ⟨h1, h2, v, rest, -, e⟩ |
    ⟨⟨h1, h2, h3⟩ | h1, e⟩ | ⟨x, e⟩ <;> rw [e]
  · exact h
  · simp_all [State.receiving]
  · simp [State.receiving, h1] at h
  · simp [State.receiving, h1, h2] at h
    obtain ⟨ht, hb, htr, h | h | h⟩ := h <;> simp [State.receiving, ht, hb, htr, h, h1]
  · simp [State.receiving, h1] at h
  · simp_all [State.receiving]
  · simpa [State.receiving] using h

theorem State.released_periphStep (s : State) (p : PeriphStep) (h : s.released) : (s.periphStep p).released := by
  rcases State.periphStep_cases s p with e | ⟨h1, -, -, e⟩ | ⟨-, h2, e⟩ | ⟨h1, -, v, rest, -, e⟩ | ⟨-, e⟩ | ⟨x, e⟩ <;>
    rw [e]
  · exact h
  · simp [State.released, State.free, State.releasing, State.quiet, h1] at h
  · simp [State.released, State.free, State.releasing, State.quiet, h2] at h
  · simp [State.released, State.free, State.releasing, State.quiet, h1] at h
  · have hq : s.quiet := h.elim (·.1) (·.1)
    exact .inl ⟨by simpa [State.quiet] using hq, by simp, by simp⟩
  · simpa [State.released, State.free, State.releasing, State.quiet] using h

/-- A step of the peripheral neither begins nor ends a transaction. -/
theorem State.goesOn_periphStep (s : State) (p : PeriphStep) (h : s.goesOn ∨ s.released) :
    (s.periphStep p).goesOn ↔ s.goesOn := by
  rcases h with (h | h) | h
  · exact iff_of_true (.inl (State.transmitting_periphStep s p h)) (.inl h)
  · exact iff_of_true (.inr (State.receiving_periphStep s p h)) (.inr h)
  · exact iff_of_false (State.not_goesOn_of_released _ (State.released_periphStep s p h))
      (State.not_goesOn_of_released s h)

/-! ### The `*_ARM` and the handler -/

/-- On a free bus an `*_ARM` starts the transaction of its kind (R112, R122, R127). -/
theorem exec_atArm_goesOn (s v : State) (h : s.inPhase) (ha : s.atArm)
    (hv : exec (decodePosition s.fg) s = .next v) : v.goesOn := by
  obtain ⟨⟨⟨hr, ht, hb, -⟩, hbus, hp⟩, h2⟩ := State.inPhase_atArm s h ha
  rcases ha with e | e | e <;> rw [e] at hv <;> cases hv
  · exact .inl (by simp [State.transmitting, hr, ht, hb, hbus, hp])
  · exact .inl (by simp [State.transmitting, hr, ht, hb, hbus, hp])
  · obtain ⟨htr, hn, hc⟩ := h2 e
    exact .inr (by simp [State.receiving, hr, ht, hb, hbus, hp, htr, hn, hc])

/-- Where a receive in progress stands when a byte is ready: the counter tells the tier (R66, R102). -/
theorem State.receiving_of_rxFull (s : State) (h : s.receiving) (hf : s.ifg.rxFull = true) :
    s.ifg.txEmpty = false ∧ s.txbufFull = false ∧ s.ctl.tr = false ∧ s.ctl.txstt = false ∧
    ((s.rxRemaining = 3 ∧ s.rxCursor = 0 ∧ s.bus = .rxActive ∧ s.ctl.txstp = false) ∨
     (s.rxRemaining = 2 ∧ s.rxCursor = 1 ∧ s.bus = .rxActive ∧ s.ctl.txstp = false) ∨
     (s.rxRemaining = 1 ∧ s.rxCursor = 2 ∧
       ((s.bus = .rxStopping ∧ s.ctl.txstp = true) ∨ (s.bus = .busIdle ∧ s.ctl.txstp = false)))) := by
  simp [State.receiving, hf] at h ⊢
  tauto

/-- `RX_CONT` keeps a receive in progress (R91). -/
theorem State.receiving_rxCont (s : State) (h : s.receiving) (hf : s.ifg.rxFull = true) (hr : 2 < s.rxRemaining) :
    (((s.setRxRemaining (s.rxRemaining - 1)).readRxbuf.storeCell s.rxbuf).setCursor (s.rxCursor + 1)).receiving := by
  obtain ⟨ht, hb, htr, hs, ⟨hn, hc, hbus, hp⟩ | ⟨hn, -⟩ | ⟨hn, -⟩⟩ := State.receiving_of_rxFull s h hf
  · simp [State.receiving, ht, hb, htr, hs, hn, hc, hbus, hp]
  · simp [hn] at hr
  · simp [hn] at hr

/-- `RX_PENULT` keeps it, and issues its stop (R92). -/
theorem State.receiving_rxPenult (s : State) (h : s.receiving) (hf : s.ifg.rxFull = true) (hr : s.rxRemaining = 2) :
    (((s.setRxRemaining (s.rxRemaining - 1)).readRxbuf.storeCell s.rxbuf).setCursor
      (s.rxCursor + 1)).issueStop.receiving := by
  obtain ⟨ht, hb, htr, hs, ⟨hn, -⟩ | ⟨-, hc, hbus, hp⟩ | ⟨hn, -⟩⟩ := State.receiving_of_rxFull s h hf
  · simp [hn] at hr
  · simp [State.receiving, ht, hb, htr, hs, hr, hc, hbus]
  · simp [hn] at hr

/-- `RX_LAST` ends it: its stop has been issued, and may have completed (R93, R102). -/
theorem State.released_rxLast (s : State) (h : s.receiving) (hf : s.ifg.rxFull = true) (hr : s.rxRemaining ≤ 1) :
    (s.readRxbuf.storeCell s.rxbuf).finishCount.wake.released := by
  obtain ⟨ht, hb, -, hs, ⟨hn, -⟩ | ⟨hn, -⟩ | ⟨-, -, ⟨hbus, hp⟩ | ⟨hbus, hp⟩⟩⟩ := State.receiving_of_rxFull s h hf
  · simp [hn] at hr
  · simp [hn] at hr
  · exact .inr (by simp [State.releasing, State.quiet, ht, hb, hs, hbus, hp])
  · exact .inl (by simp [State.free, State.quiet, ht, hb, hs, hbus, hp])

/-- Where a transmit in progress stands when a byte is wanted. -/
theorem State.transmitting_of_txEmpty (s : State) (h : s.transmitting) (hf : s.ifg.txEmpty = true) :
    s.ifg.rxFull = false ∧ s.ctl.txstp = false ∧ s.ctl.tr = true ∧ s.ctl.txstt = false ∧ s.bus = .txActive ∧
    s.txbufFull = false := by
  simpa [State.transmitting, hf] using h

/-- Loading `TXBUF` keeps a transmit in progress (R94, R95). -/
theorem State.transmitting_writeTxbuf (s : State) (b : Byte) (n : Counter) (h : s.transmitting)
    (hf : s.ifg.txEmpty = true) : ((s.writeTxbuf b).setTxRemaining n).transmitting := by
  obtain ⟨hr, hp, htr, hs, hbus, -⟩ := State.transmitting_of_txEmpty s h hf
  simp [State.transmitting, hr, hp, htr, hs, hbus]

/-- `TX_DONE` ends it: its stop has been issued (R96). -/
theorem State.released_txDone (s : State) (h : s.transmitting) (hf : s.ifg.txEmpty = true) :
    s.issueStop.clearTxifg.clearTrIfRead.wake.released := by
  obtain ⟨hr, -, -, hs, hbus, hb⟩ := State.transmitting_of_txEmpty s h hf
  exact .inr (by simp [State.releasing, State.quiet, hr, hs, hbus, hb])

/-- A receive tier keeps the receive going, unless it is the completing one. -/
theorem goesOn_rx_iff (s v : State) (hp : s.protocol) (hw : s.inArmWindow = true) (e : s.iv = Ev.rxFull)
    (hr : (2 < s.rxRemaining ∧
        v = ((s.setRxRemaining (s.rxRemaining - 1)).readRxbuf.storeCell s.rxbuf).setCursor (s.rxCursor + 1)) ∨
      (s.rxRemaining = 2 ∧ v =
        (((s.setRxRemaining (s.rxRemaining - 1)).readRxbuf.storeCell s.rxbuf).setCursor (s.rxCursor + 1)).issueStop) ∨
      (s.rxRemaining ≤ 1 ∧ v = (s.readRxbuf.storeCell s.rxbuf).finishCount.wake)) :
    v.goesOn ↔ s.goesOn ∧ s.completesOwn = false := by
  obtain ⟨hig, hiv, hin⟩ := hp
  have hf := (State.data_flag_of_iv s hiv).1 e
  obtain ⟨hrec, -, ⟨hfg, -⟩ | ⟨hfg, -⟩⟩ := State.inPhase_of_rxFull s hin hf
  · have hc : s.completesOwn = true ↔ s.rxRemaining ≤ 1 := by
      simp only [State.completesOwn_iff_of_inArmWindow s hw, State.aborted_of_ignore s hig,
        decodeEvent_eq_rxLast_iff, hfg, e, ne_eq, not_true, false_and, false_or, true_and]
    rw [← Bool.not_eq_true, hc]
    rcases hr with ⟨hr, rfl⟩ | ⟨hr, rfl⟩ | ⟨hr, rfl⟩
    · exact iff_of_true (.inr (State.receiving_rxCont s hrec hf hr)) ⟨.inr hrec, by bv_omega⟩
    · exact iff_of_true (.inr (State.receiving_rxPenult s hrec hf hr)) ⟨.inr hrec, by bv_omega⟩
    · exact iff_of_false (State.not_goesOn_of_released _ (State.released_rxLast s hrec hf hr)) fun k => k.2 hr
  · simp [State.inArmWindow, hfg] at hw

/-- A transmit tier keeps the transmit going, unless it is the completing one. -/
theorem goesOn_tx_iff (s v : State) (hp : s.protocol) (hw : s.inArmWindow = true) (e : s.iv = Ev.txEmpty)
    (hr : (1 < s.txRemaining ∧ v = (s.writeTxbuf s.addrByte).setTxRemaining (s.txRemaining - 1)) ∨
      (s.txRemaining = 1 ∧ v = (s.writeTxbuf s.dataByte).setTxRemaining 0) ∨
      (s.txRemaining = 0 ∧ v = s.issueStop.clearTxifg.clearTrIfRead.wake)) :
    v.goesOn ↔ s.goesOn ∧ s.completesOwn = false := by
  obtain ⟨hig, hiv, hin⟩ := hp
  have hf := (State.data_flag_of_iv s hiv).2 e
  obtain ⟨htr, hfg⟩ := State.inPhase_of_txEmpty s hin hf
  have hfg : s.fg ≠ Fg.r2Sleep := by
    rcases hfg with ⟨-, ⟨k, -⟩ | ⟨k, -⟩⟩ | ⟨-, -, ⟨k, -⟩ | ⟨k, -⟩⟩ <;> rw [k] <;> decide
  have hc : s.completesOwn = true ↔ s.txRemaining = 0 := by
    simp only [State.completesOwn_iff_of_inArmWindow s hw, State.aborted_of_ignore s hig,
      decodeEvent_eq_txDone_iff, hfg, e, ne_eq, not_false_iff, true_and, false_and, or_false]
  rw [← Bool.not_eq_true, hc]
  rcases hr with ⟨hr, rfl⟩ | ⟨hr, rfl⟩ | ⟨hr, rfl⟩
  · exact iff_of_true (.inl (State.transmitting_writeTxbuf s _ _ htr hf)) ⟨.inl htr, by bv_omega⟩
  · exact iff_of_true (.inl (State.transmitting_writeTxbuf s _ _ htr hf)) ⟨.inl htr, by bv_omega⟩
  · exact iff_of_false (State.not_goesOn_of_released _ (State.released_txDone s htr hf)) fun k => k.2 hr

/-- A rule of an "other" cause, or none, completes nothing. -/
theorem goesOn_other_iff (s v : State) (hr : s.iv ≠ Ev.rxFull) (ht : s.iv ≠ Ev.txEmpty) (h : s.samePhase v) :
    v.goesOn ↔ s.goesOn ∧ s.completesOwn = false := by
  obtain ⟨htx, hrx⟩ := State.selectedEvent_of_other s hr ht
  simp [State.goesOn_congr s v h, State.completesOwn, htx, hrx]

/-- Before the `*_SLEEP` a handler rule ends the transaction exactly if it is the completing tier of its kind. -/
theorem exec_event_goesOn (s v : State) (hp : s.protocol) (hw : s.inArmWindow = true)
    (h : exec s.selectedEvent s = .next v) : v.goesOn ↔ s.goesOn ∧ s.completesOwn = false := by
  have ha := State.aborted_of_ignore s hp.1
  have hk := State.surfacesError_of_ignore s hp.1
  rcases exec_event_cases s v h with ⟨-, a, -⟩ | ⟨e, -, -, hr⟩ | ⟨-, a, -⟩ | ⟨e, -, hr⟩ | ⟨e, ⟨k, -⟩ | ⟨-, rfl⟩⟩ |
    ⟨e, ⟨k, -⟩ | ⟨-, rfl⟩⟩ | ⟨e, rfl⟩ | ⟨e, rfl⟩ | ⟨e | e, rfl⟩
  · simp [ha] at a
  · exact goesOn_rx_iff s v hp hw e hr
  · simp [ha] at a
  · exact goesOn_tx_iff s v hp hw e hr
  · simp [hk] at k
  · exact goesOn_other_iff s _ (by simp [e]) (by simp [e]) (by simp [State.samePhase])
  · simp [hk] at k
  · exact goesOn_other_iff s _ (by simp [e]) (by simp [e]) (by simp [State.samePhase])
  · exact goesOn_other_iff s _ (by simp [e]) (by simp [e]) (by simp [State.samePhase])
  · exact goesOn_other_iff s _ (by simp [e]) (by simp [e]) (by simp [State.samePhase])
  · exact goesOn_other_iff v _ (by simp [e]) (by simp [e]) (by simp [State.samePhase])
  · exact goesOn_other_iff v _ (by simp [e]) (by simp [e]) (by simp [State.samePhase])

/-! ### One step -/

theorem State.goesOn_latchIv (s : State) (n : Nat) : (s.latchIv n).goesOn ↔ s.goesOn :=
  State.goesOn_congr s _ (by simp [State.samePhase])

theorem State.goesOn_takeTurn (s : State) : s.takeTurn.goesOn ↔ s.goesOn :=
  State.goesOn_congr s _ (by simp [State.samePhase])

theorem State.goesOn_noteWake (s : State) (i : Instr) : (s.noteWake i).goesOn ↔ s.goesOn :=
  State.goesOn_congr s _ (by simp [State.samePhase])

theorem State.protocol_takeTurn (s : State) (h : s.protocol) : s.takeTurn.protocol := by
  obtain ⟨hig, hiv, hin⟩ := h
  exact ⟨by simpa using hig, by simpa [State.ivConsistent, State.causePending, State.pending] using hiv,
    State.inPhase_takeTurn s hin⟩

theorem State.not_reserved_of_protocol (s : State) (h : s.protocol) :
    fgReserved s.fg = false ∧ s.statusReserved = false :=
  ⟨State.fgReserved_of_inPhase s h.2.2, State.statusReserved_of_ignore s h.1⟩

/-- An `*_ARM` step leaves its transaction going on. -/
theorem step_atArm_goesOn (s t : State) (h : step s = .next t) (hp : s.protocol) (hm : s.turn.move = .foreground)
    (hl : s.lpm = false) (ha : s.atArm) : t.goesOn := by
  obtain ⟨hfg, hst⟩ := State.not_reserved_of_protocol s hp
  have hi : s.fg ≠ Fg.idle := by rcases ha with e | e | e <;> rw [e] <;> decide
  have hh : s.returnHeld = false := by
    rcases ha with e | e | e <;> simp [State.returnHeld, State.returnsRead, e]
  have hrun := (stepRunsTheSelectedOperation s hfg hst).1 hm hl hi hh
  obtain ⟨u, hu, ht⟩ := (andThen_eq_next _ _ _).mp (hrun.symm.trans h)
  have hg := exec_atArm_goesOn s.takeTurn u (State.inPhase_takeTurn s hp.2.2) ((State.atArm_takeTurn s).mpr ha)
    (by simpa using hu)
  cases ht
  rwa [State.goesOn_latchIv, State.goesOn_noteWake]

/-- Before the `*_SLEEP`, and on any turn but the foreground's, only the handler's completing tier ends the
transaction. -/
theorem step_inArmWindow_goesOn (s t : State) (h : step s = .next t) (hp : s.protocol) (hw : s.inArmWindow = true)
    (hm : s.turn.move ≠ .foreground) :
    t.goesOn ↔
      s.goesOn ∧ (s.turn.move = .interrupt → s.interruptEnabled = true → s.completesOwn = false) := by
  obtain ⟨hfg, hst⟩ := State.not_reserved_of_protocol s hp
  obtain ⟨-, -, -, hevent⟩ := stepRunsTheSelectedOperation s hfg hst
  obtain ⟨hperiph, hhost, hpass, -⟩ := stepWithoutOperation.2 s hfg hst
  cases e : s.turn.move with
  | foreground => exact absurd e hm
  | interrupt =>
    cases he : s.interruptEnabled with
    | false =>
      cases (hpass e he).symm.trans h
      simp [State.goesOn_latchIv, State.goesOn_takeTurn]
    | true =>
      obtain ⟨u, hu, ht⟩ := (andThen_eq_next _ _ _).mp ((hevent e he).symm.trans h)
      have hg := exec_event_goesOn s.takeTurn u (State.protocol_takeTurn s hp) (by simpa using hw) (by simpa using hu)
      cases ht
      simpa [State.goesOn_latchIv, State.goesOn_noteWake, State.goesOn_takeTurn] using hg
  | peripheral p =>
    cases (hperiph p e).symm.trans h
    have hin := State.inPhase_takeTurn s hp.2.2
    have hg := State.goesOn_periphStep s.takeTurn p (State.inPhase_inArmWindow _ hin (by simpa using hw)).2
    simpa [State.goesOn_latchIv, State.goesOn_takeTurn] using hg
  | host w =>
    cases (hhost w e).symm.trans h
    refine (State.goesOn_congr s _ ?_).trans (by simp)
    simp [State.samePhase]

/-- Under the protocol, before the `*_SLEEP`, `armed` and `goesOn` stay the same thing. -/
theorem step_armed_iff_goesOn (s t : State) (h : step s = .next t) (hp : s.protocol)
    (hs : s.inArmWindow = true → (s.armed = true ↔ s.goesOn)) (hwt : t.inArmWindow = true) :
    t.armed = true ↔ t.goesOn := by
  cases step_armedOutcome s t h with
  | arms hm hl ha hw hk =>
    exact iff_of_true (by simp [State.armed, hw, hk]) (step_atArm_goesOn s t h hp hm hl ha)
  | suspends hm hl hws ht hw => simp [hw] at hwt
  | outside hm hl ha hws ht hw => simp [hw] at hwt
  | handles hm he hf ht hk =>
    have hw : s.inArmWindow = true := State.inArmWindow_congr s t hf ▸ hwt
    have hl := (State.inPhase_inArmWindow s hp.2.2 hw).1
    rw [step_inArmWindow_goesOn s t h hp hw (by simp [hm]), ← hs hw]
    simp [State.armed, hw, hwt, hl, ht, hk, hm, he]
  | keeps hn ho hf ht hk =>
    have hw : s.inArmWindow = true := State.inArmWindow_congr s t hf ▸ hwt
    have hl := (State.inPhase_inArmWindow s hp.2.2 hw).1
    have hm : s.turn.move ≠ .foreground := fun hm => by simp [(ho hm hl).2] at hw
    have hn' : s.turn.move = .interrupt → s.interruptEnabled = true → s.completesOwn = false :=
      fun hi he => absurd ⟨hi, he⟩ hn
    rw [step_inArmWindow_goesOn s t h hp hw hm, and_iff_left hn', ← hs hw]
    simp [State.armed, hw, hwt, ht, hk]

/-! ### The statement -/

/-- An `*_ARM` makes `armed` true from false. -/
theorem ArmedOutcome.armed_of_atArm {s t : State} (h : ArmedOutcome s t) (hm : s.turn.move = .foreground)
    (hl : s.lpm = false) (ha : s.atArm) : s.armed = false ∧ t.armed = true := by
  have hw := State.inArmWindow_of_atArm s ha
  refine ⟨by rw [State.armed_of_not_inArmWindow s hw, hl], ?_⟩
  cases h with
  | arms _ _ _ hwt hk => simp [State.armed, hwt, hk]
  | suspends _ _ hs => simp [hw] at hs
  | outside _ _ hn => exact absurd ha hn
  | handles hi => simp [hm] at hi
  | keeps _ hn => exact absurd ha (hn hm hl).1

/-- `armed` becomes true at an `*_ARM`, or at the `*_SLEEP` after a lost `wake()` (R37). -/
theorem ArmedOutcome.atArm_or_sleep_of_armed {s t : State} (h : ArmedOutcome s t) (hs : s.armed = false)
    (ht : t.armed = true) : s.turn.move = .foreground ∧ (s.atArm ∨ (s.inArmWindow = true ∧ t.lpm = true)) := by
  cases h with
  | arms hm _ ha => exact ⟨hm, .inl ha⟩
  | suspends hm _ hw hlt => exact ⟨hm, .inr ⟨hw, hlt⟩⟩
  | outside _ _ _ _ hlt hwt => simp [State.armed, hlt, hwt] at ht
  | handles _ _ hf hlt hk =>
    obtain ⟨hl, hk0⟩ : s.lpm = false ∧ (s.inArmWindow = true → s.woken = true) := by simpa [State.armed] using hs
    obtain ⟨hw, hk1, -⟩ : s.inArmWindow = true ∧ s.woken = false ∧ s.completesOwn = false := by
      simpa [State.armed, State.inArmWindow_congr s t hf, hlt, hk, hl] using ht
    simp [hk0 hw] at hk1
  | keeps _ _ hf hlt hk =>
    simp only [State.armed, State.inArmWindow_congr s t hf, hlt, hk] at hs ht
    simp [hs] at ht

/-- Before the `*_SLEEP`, `armed` ends exactly with the completing tier of the transaction's kind. -/
theorem ArmedOutcome.armed_end_awake {s t : State} (h : ArmedOutcome s t) (hs : s.armed = true) (hl : s.lpm = false) :
    t.armed = false ↔ s.turn.move = .interrupt ∧ s.interruptEnabled = true ∧ s.completesOwn = true := by
  have hws : s.inArmWindow = true ∧ s.woken = false := by simpa [State.armed, hl] using hs
  obtain ⟨hw, hk0⟩ := hws
  cases h with
  | arms _ _ ha => simp [State.inArmWindow_of_atArm s ha] at hw
  | suspends hm _ _ hlt => simp [State.armed, hlt, hm]
  | outside _ _ _ hn => simp [hn] at hw
  | handles hm he hf hlt hk => simp [State.armed, State.inArmWindow_congr s t hf, hlt, hk, hl, hw, hk0, hm, he]
  | keeps hn _ hf hlt hk =>
    have ht : t.armed = true := by simp [State.armed, State.inArmWindow_congr s t hf, hlt, hk, hw, hk0]
    simp only [ht, Bool.true_eq_false, false_iff]
    exact fun ⟨hm, he, _⟩ => hn ⟨hm, he⟩

/-- While the foreground is suspended, `armed` ends exactly with a `wake()` (R172). -/
theorem ArmedOutcome.armed_end_asleep {s t : State} (h : ArmedOutcome s t) (hl : s.lpm = true)
    (hw : s.inArmWindow = false) :
    t.armed = false ↔ s.turn.move = .interrupt ∧ s.interruptEnabled = true ∧ s.wakesSleeper = true := by
  cases h with
  | arms _ hn => simp [hl] at hn
  | suspends _ hn => simp [hl] at hn
  | outside _ hn => simp [hl] at hn
  | handles hm he hf hlt => simp [State.armed, State.inArmWindow_congr s t hf, hlt, hl, hw, hm, he]
  | keeps hn _ hf hlt =>
    have ht : t.armed = true := by simp [State.armed, hlt, hl]
    simp only [ht, Bool.true_eq_false, false_iff]
    exact fun ⟨hm, he, _⟩ => hn ⟨hm, he⟩

/-- Settles O59: each clause reads off the outcome of the step for `armed`. -/
theorem armedInterval : Obligations.ArmedInterval := by
  intro s t h
  have ho := step_armedOutcome s t h
  refine ⟨ho.armed_of_atArm, fun hs ht => ?_, fun hs hl => ?_, fun hl hw => ?_, State.armed_of_not_inArmWindow t,
    step_armed_iff_goesOn s t h⟩
  · simpa [State.atArm, or_assoc] using ho.atArm_or_sleep_of_armed hs ht
  · have hw : s.inArmWindow = true := by
      rw [State.armed_of_awake s hl, Bool.and_eq_true] at hs
      exact hs.1
    rw [ho.armed_end_awake hs hl, State.completesOwn_iff_of_inArmWindow s hw]
  · rw [ho.armed_end_asleep hl hw, State.wakesSleeper_iff]

end Sys2Proof.Machine
end

section
/-! Proofs: what the turn of each agent does, said once (R3). The statements about every step read their fields off
`StepOutcome`; what an agent leaves alone is one frame lemma of that agent. -/

namespace Sys2Proof.Machine

/-- Everything the step from `s` to `t` can be, agent by agent. -/
inductive StepOutcome (s t : State) : Prop where
  /-- The foreground accepts a `WRITE` (R80). -/
  | write (w : CmdWord) (ws : List CmdWord) (a d : Byte) (ha : s.accepts (.write a d)) (hc : s.cmds = w :: ws)
    (hd : decodeCommand w = .write a d)
    (ht : t = ((((((s.takeTurn.popCmd.setDirection .write).setTxRemaining Config.txLenWrite).setAddrByte a).setDataByte
      d).clearStatus.goto Fg.wPoll)).latchIv s.turn.ivPick)
  /-- The foreground accepts a `READ` (R81). -/
  | read (w : CmdWord) (ws : List CmdWord) (a : Byte) (ha : s.accepts (.read a)) (hc : s.cmds = w :: ws)
    (hd : decodeCommand w = .read a)
    (ht : t = ((((((s.takeTurn.popCmd.setDirection .read).setTxRemaining Config.txLenSetup).setDataByte a).setCursor
      0).clearStatus.goto Fg.r1Poll)).latchIv s.turn.ivPick)
  /-- The foreground runs the micro-operation in `fg` (R67). -/
  | position (u : State) (hm : s.turn.move = .foreground) (hl : s.lpm = false) (hi : s.fg ≠ Fg.idle)
    (hu : exec (decodePosition s.takeTurn.fg) s.takeTurn = .next u)
    (ht : t = (u.noteWake (decodePosition s.takeTurn.fg)).latchIv s.turn.ivPick)
  /-- The foreground runs `CONFIG` (R192). -/
  | boot (hm : s.turn.move = .foreground) (hr : s.ctl.swrst = true) (hf : s.fg = Fg.idle) (hl : s.lpm = false)
    (ht : t = s.takeTurn.bootConfig.latchIv s.turn.ivPick)
  /-- The handler runs the rule selected (R90). -/
  | event (u : State) (hm : s.turn.move = .interrupt) (he : s.interruptEnabled = true)
    (hu : exec s.takeTurn.selectedEvent s.takeTurn = .next u)
    (ht : t = (u.noteWake s.takeTurn.selectedEvent).latchIv s.turn.ivPick)
  /-- The peripheral's turn (R137 to R145). -/
  | periph (p : PeriphStep) (hm : s.turn.move = .peripheral p)
    (ht : t = (s.takeTurn.periphStep p).latchIv s.turn.ivPick)
  /-- The host presents a word (R38). -/
  | host (w : CmdWord) (hm : s.turn.move = .host w) (ht : t = (s.takeTurn.pushCmd w).latchIv s.turn.ivPick)
  /-- The foreground or the handler passes (log entry 3). -/
  | pass (hp : (s.turn.move = .foreground ∧ (s.lpm = false → s.inArmWindow = false)) ∨
      (s.turn.move = .interrupt ∧ s.interruptEnabled = false))
    (ht : t = s.takeTurn.latchIv s.turn.ivPick)

theorem State.bootDue_iff (s : State) :
    s.bootDue = true ↔ s.ctl.swrst = true ∧ s.fg = Fg.idle ∧ s.lpm = false := by
  simp only [State.bootDue, Bool.and_eq_true, Bool.not_eq_true', decide_eq_true_eq, and_assoc]

/-- The two commands, each with what it is decoded from. -/
theorem stepOutcome_command (s v : State) (w : CmdWord) (ws : List CmdWord) (hm : s.turn.move = .foreground)
    (hl : s.lpm = false) (hf : s.fg = Fg.idle) (hr : s.ctl.swrst = false) (hc : s.cmds = w :: ws)
    (hv : exec (decodeCommand w) s.takeTurn.popCmd = .next v) : StepOutcome s (v.latchIv s.turn.ivPick) := by
  have ha : s.accepts (decodeCommand w) := ⟨hm, hf, hl, hr, w, ws, hc, rfl⟩
  by_cases ho : cmdOp w = 0
  · have hd : decodeCommand w = .write (cmdA w) (cmdD w) := if_pos ho
    rw [hd] at hv ha
    cases hv
    exact .write w ws _ _ ha hc hd rfl
  · have hd : decodeCommand w = .read (cmdA w) := if_neg ho
    rw [hd] at hv ha
    cases hv
    exact .read w ws _ ha hc hd rfl

theorem step_outcome (s t : State) (h : step s = .next t) : StepOutcome s t := by
  obtain ⟨v, rfl, ⟨hm, hl, hf, hr, ⟨-, rfl⟩ | ⟨w, ws, hc, hv⟩⟩ | ⟨hm, hl, hi, -, u, hu, rfl⟩ | ⟨hm, hb, rfl⟩ |
    ⟨hm, -, hn, rfl⟩ | ⟨hm, he, u, hu, rfl⟩ | ⟨hm, he, rfl⟩ | ⟨p, hm, rfl⟩ | ⟨w, hm, rfl⟩⟩ := step_outcomes s t h
  · exact .pass (.inl ⟨hm, fun _ => (State.outside_of_idle s hf).2⟩) rfl
  · exact stepOutcome_command s v w ws hm hl hf hr hc hv
  · exact .position u hm hl hi hu rfl
  · obtain ⟨hr, hf, hl⟩ := (State.bootDue_iff s).mp hb
    exact .boot hm hr hf hl rfl
  · refine .pass (.inl ⟨hm, fun hl => ?_⟩) rfl
    simpa using (State.outside_of_no_fetch s.takeTurn hn (by simpa using hl)).2
  · exact .event u hm he hu rfl
  · exact .pass (.inr ⟨hm, he⟩) rfl
  · exact .periph p hm rfl
  · exact .host w hm rfl

/-! ### What an agent leaves alone -/

/-- `t` has the configuration of `s`: the constants, and the registers that `CONFIG` writes (R21, R192). -/
def State.sameConfig (s t : State) : Prop :=
  t.par = s.par ∧ t.ctl.swrst = s.ctl.swrst ∧ t.ctl.mst = s.ctl.mst ∧ t.ctl.mode = s.ctl.mode ∧
  t.ctl.sync = s.ctl.sync ∧ t.clkSrc = s.clkSrc ∧ t.br = s.br ∧ t.sa = s.sa ∧ t.ie = s.ie

/-- `t` has the host's ports of `s` (R38). -/
def State.samePorts (s t : State) : Prop := t.cmds = s.cmds ∧ t.responses = s.responses

/-- The operands of the call in progress are the same (R10, R13, R14). -/
def State.sameOperands (s t : State) : Prop :=
  t.direction = s.direction ∧ t.addrByte = s.addrByte ∧ t.dataByte = s.dataByte

/-- A handler rule leaves the configuration, the ports, the operands, `fg`, `gie` and the start bit alone (R174). -/
theorem exec_event_keeps (s v : State) (h : exec s.selectedEvent s = .next v) :
    s.sameConfig v ∧ s.samePorts v ∧ s.sameOperands v ∧ v.fg = s.fg ∧ v.gie = s.gie ∧
    v.ctl.txstt = s.ctl.txstt := by
  rcases exec_event_cases s v h with ⟨-, -, rfl⟩ | ⟨-, -, -, ⟨-, rfl⟩ | ⟨-, rfl⟩ | ⟨-, rfl⟩⟩ | ⟨-, -, rfl⟩ |
    ⟨-, -, ⟨-, rfl⟩ | ⟨-, rfl⟩ | ⟨-, rfl⟩⟩ | ⟨-, ⟨-, rfl⟩ | ⟨-, rfl⟩⟩ | ⟨-, ⟨-, rfl⟩ | ⟨-, rfl⟩⟩ | ⟨-, rfl⟩ |
    ⟨-, rfl⟩ | ⟨-, rfl⟩ <;> simp [State.sameConfig, State.samePorts, State.sameOperands]

/-- A step of the peripheral leaves all that is not its own alone, and starts nothing (R137 to R143). -/
theorem State.periphStep_keeps (s : State) (p : PeriphStep) :
    s.sameConfig (s.periphStep p) ∧ s.samePorts (s.periphStep p) ∧ s.sameTransaction (s.periphStep p) ∧
    (s.periphStep p).fg = s.fg ∧ (s.periphStep p).lpm = s.lpm ∧ (s.periphStep p).gie = s.gie ∧
    (s.periphStep p).wakeCount = s.wakeCount ∧ (s.periphStep p).ctl.tr = s.ctl.tr ∧
    ((s.periphStep p).ctl.txstt = true → s.ctl.txstt = true) := by
  rcases State.periphStep_cases s p with e | ⟨-, -, -, e⟩ | ⟨-, -, e⟩ | ⟨-, -, v, rest, -, e⟩ | ⟨-, e⟩ | ⟨x, e⟩ <;>
    rw [e] <;> simp [State.sameConfig, State.samePorts, State.sameTransaction]

/-- A micro-operation leaves the configuration and the command port alone (R110, R120). -/
theorem exec_position_keeps (s v : State) (hi : s.fg ≠ Fg.idle) (h : exec (decodePosition s.fg) s = .next v) :
    s.sameConfig v ∧ v.cmds = s.cmds ∧ s.sameOperands v ∧ v.wakeCount = s.wakeCount := by
  rcases exec_position_cases s v hi h with ⟨-, rfl⟩ | ⟨-, rfl⟩ | ⟨-, rfl⟩ | ⟨-, rfl⟩ | ⟨-, rfl⟩ | ⟨-, rfl⟩ | ⟨-, rfl⟩ |
    ⟨-, -, rfl⟩ | ⟨-, -, rfl⟩ | ⟨-, rfl⟩ | ⟨-, rfl⟩ | ⟨-, rfl⟩ | ⟨-, rfl⟩ | ⟨-, rfl⟩ <;>
    simp [State.sameConfig, State.sameOperands]

end Sys2Proof.Machine
end

section
/-! Proofs: the protocol under `Ignore` is kept by the turn of each agent (R17 to R19, R83, R102, R103, R145). -/

namespace Sys2Proof.Machine

/-! ### The foreground -/

/-- Where the foreground stands is not for the transaction's own state to know. -/
@[simp] theorem State.goto_phases (s : State) (x : FgCode) :
    ((s.goto x).free ↔ s.free) ∧ ((s.goto x).released ↔ s.released) ∧ ((s.goto x).setupDone ↔ s.setupDone) ∧
    ((s.goto x).receiveDone ↔ s.receiveDone) ∧ ((s.goto x).transmitting ↔ s.transmitting) ∧
    ((s.goto x).receiving ↔ s.receiving) :=
  ⟨.rfl, .rfl, .rfl, .rfl, .rfl, .rfl⟩

/-- Nor is whether it sleeps. -/
@[simp] theorem State.sleep_phases (s : State) :
    (s.sleep.released ↔ s.released) ∧ (s.sleep.setupDone ↔ s.setupDone) ∧ (s.sleep.receiveDone ↔ s.receiveDone) ∧
    (s.sleep.transmitting ↔ s.transmitting) ∧ (s.sleep.receiving ↔ s.receiving) :=
  ⟨.rfl, .rfl, .rfl, .rfl, .rfl⟩

/-- Nor what the response port carries. -/
@[simp] theorem State.released_respond (s : State) (r : Response) : (s.respond r).released ↔ s.released := .rfl

@[simp] theorem State.setupDone_setRxRemaining (s : State) (n : Counter) :
    (s.setRxRemaining n).setupDone ↔ s.setupDone := .rfl

/-- With no stop pending, a bus that has been released is free. -/
theorem State.free_of_released (s : State) (h : s.released) (hp : s.ctl.txstp = false) : s.free := by
  rcases h with h | ⟨-, -, hn⟩
  · exact h
  · simp [hp] at hn

/-- On a free bus an `*_ARM` as transmitter starts a transmit (R112, R122). -/
theorem State.transmitting_arm (s : State) (h : s.free) : s.setTr.issueStart.transmitting := by
  obtain ⟨⟨hr, ht, hb, -⟩, hbus, hp⟩ := h
  simp [State.transmitting, hr, ht, hb, hbus, hp]

/-- And `R2_ARM` a receive, with the counters that `R2_INIT` and the acceptance have set (R82, R127). -/
theorem State.receiving_arm (s : State) (h : s.free) (htr : s.ctl.tr = false) (hn : s.rxRemaining = 3)
    (hc : s.rxCursor = 0) : s.issueStart.receiving := by
  obtain ⟨⟨hr, ht, hb, -⟩, hbus, hp⟩ := h
  simp [State.receiving, hr, ht, hb, hbus, hp, htr, hn, hc]

/-- Each micro-operation leads to the next position with the transaction as that position asks for (R110, R120). -/
theorem State.inPhase_position (s v : State) (h : s.inPhase) (hl : s.lpm = false) (ha : s.aborted = false)
    (hi : s.fg ≠ Fg.idle) (hv : exec (decodePosition s.fg) s = .next v) : v.inPhase := by
  have hpoll (hr : s.released) : s.ctl.txstp = true ∨ (s.ctl.txstp = false ∧ s.free) := by
    cases hp : s.ctl.txstp
    · exact .inr ⟨rfl, State.free_of_released s hr hp⟩
    · exact .inl rfl
  rcases exec_position_cases s v hi hv with ⟨e, rfl⟩ | ⟨e, rfl⟩ | ⟨e, rfl⟩ | ⟨e, rfl⟩ | ⟨e, rfl⟩ | ⟨e, rfl⟩ | ⟨e, rfl⟩ |
    ⟨e, -, rfl⟩ | ⟨-, k, -⟩ | ⟨e, rfl⟩ | ⟨e, rfl⟩ | ⟨e, rfl⟩ | ⟨e, rfl⟩ | ⟨e, rfl⟩
  · obtain ⟨hd, hr⟩ : s.direction = .write ∧ s.released := by simpa [State.inPhase, e, hl] using h
    rcases hpoll hr with hp | ⟨hp, hfree⟩ <;> simp [State.inPhase, *]
  · obtain ⟨hd, hfree⟩ : s.direction = .write ∧ s.free := by simpa [State.inPhase, e, hl] using h
    simp [State.inPhase, hl, hd, State.transmitting_arm s hfree]
  · have hk : s.direction = .write ∧ (s.transmitting ∨ s.released) := by simpa [State.inPhase, e, hl] using h
    simp [State.inPhase, hk]
  · have hk : s.direction = .write ∧ s.released := by simpa [State.inPhase, e, hl] using h
    simp [State.inPhase, hl, hk]
  · obtain ⟨hd, hc, hr⟩ : s.direction = .read ∧ s.rxCursor = 0 ∧ s.released := by
      simpa [State.inPhase, e, hl] using h
    rcases hpoll hr with hp | ⟨hp, hfree⟩ <;> simp [State.inPhase, *]
  · obtain ⟨hd, hc, hfree⟩ : s.direction = .read ∧ s.rxCursor = 0 ∧ s.free := by
      simpa [State.inPhase, e, hl] using h
    simp [State.inPhase, hl, hd, hc, State.transmitting_arm s hfree]
  · have hk : s.direction = .read ∧ s.rxCursor = 0 ∧ (s.transmitting ∨ s.setupDone) := by
      simpa [State.inPhase, e, hl] using h
    simp [State.inPhase, hk]
  · have hk : s.direction = .read ∧ s.rxCursor = 0 ∧ s.setupDone := by simpa [State.inPhase, e, hl] using h
    simp [State.inPhase, hl, hk]
  · simp [ha] at k
  · have hk : s.direction = .read ∧ s.rxCursor = 0 ∧ s.setupDone := by simpa [State.inPhase, e, hl] using h
    simp [State.inPhase, hl, hk]
  · obtain ⟨hd, hc, hn, hs⟩ : s.direction = .read ∧ s.rxCursor = 0 ∧ s.rxRemaining = 3 ∧ s.setupDone := by
      simpa [State.inPhase, e, hl] using h
    obtain ⟨hr, htr⟩ := id hs
    rcases hpoll hr with hp | ⟨hp, hfree⟩ <;> simp [State.inPhase, *]
  · obtain ⟨hd, hc, hn, hfree, htr⟩ :
        s.direction = .read ∧ s.rxCursor = 0 ∧ s.rxRemaining = 3 ∧ s.free ∧ s.ctl.tr = false := by
      simpa [State.inPhase, e, hl] using h
    simp [State.inPhase, hl, hd, State.receiving_arm s hfree htr hn hc]
  · have hk : s.direction = .read ∧ (s.receiving ∨ s.receiveDone) := by simpa [State.inPhase, e, hl] using h
    simp [State.inPhase, hk]
  · have hk : s.receiveDone := (by simpa [State.inPhase, e, hl] using h : s.direction = .read ∧ s.receiveDone).2
    simp [State.inPhase, hl, hk.1]

/-! ### The handler -/

/-- The foreground stands at the `*_SLEEP` `x`, or sleeps there, on its way to `y`. -/
def State.awaits (s : State) (x y : FgCode) : Prop := (s.fg = x ∧ s.lpm = false) ∨ (s.fg = y ∧ s.lpm = true)

/-- `v` is what the receive tier that `rx_remaining` selects makes of `s`, a cell being left (R91 to R93). -/
def State.receiveTier (s v : State) : Prop :=
  (2 < s.rxRemaining ∧
    v = ((s.setRxRemaining (s.rxRemaining - 1)).readRxbuf.storeCell s.rxbuf).setCursor (s.rxCursor + 1)) ∨
  (s.rxRemaining = 2 ∧
    v = (((s.setRxRemaining (s.rxRemaining - 1)).readRxbuf.storeCell s.rxbuf).setCursor (s.rxCursor + 1)).issueStop) ∨
  (s.rxRemaining ≤ 1 ∧ v = (s.readRxbuf.storeCell s.rxbuf).finishCount.wake)

/-- `v` is what the transmit tier that `tx_remaining` selects makes of `s` (R94 to R96). -/
def State.transmitTier (s v : State) : Prop :=
  (1 < s.txRemaining ∧ v = (s.writeTxbuf s.addrByte).setTxRemaining (s.txRemaining - 1)) ∨
  (s.txRemaining = 1 ∧ v = (s.writeTxbuf s.dataByte).setTxRemaining 0) ∨
  (s.txRemaining = 0 ∧ v = s.issueStop.clearTxifg.clearTrIfRead.wake)

theorem State.inPhase_of_receiving (s : State) (hd : s.direction = .read) (hw : s.awaits Fg.r2Sleep Fg.r2Settle)
    (h : s.receiving) : s.inPhase := by
  rcases hw with ⟨e, hl⟩ | ⟨e, hl⟩ <;> simp [State.inPhase, h, e, hl, hd]

theorem State.inPhase_of_receiveDone (s : State) (hd : s.direction = .read)
    (hf : s.fg = Fg.r2Sleep ∨ s.fg = Fg.r2Settle) (hl : s.lpm = false) (h : s.receiveDone) : s.inPhase := by
  rcases hf with e | e <;> simp [State.inPhase, h, e, hl, hd]

/-- A transmit is that of a `WRITE`, or that of phase 1 of a `READ` (R10); `stands` says where the foreground stands
between its `*_SLEEP` and its `*_SETTLE`. -/
def State.transmitsFor (s : State) (stands : FgCode → FgCode → Prop) : Prop :=
  (s.direction = .write ∧ stands Fg.wSleep Fg.wSettle) ∨
  (s.direction = .read ∧ s.rxCursor = 0 ∧ stands Fg.r1Sleep Fg.r1Settle)

theorem State.inPhase_of_transmitting (s : State) (hw : s.transmitsFor s.awaits) (h : s.transmitting) : s.inPhase := by
  rcases hw with ⟨hd, ⟨e, hl⟩ | ⟨e, hl⟩⟩ | ⟨hd, hc, ⟨e, hl⟩ | ⟨e, hl⟩⟩ <;> simp [State.inPhase, *]

theorem State.inPhase_of_transmitDone (s : State) (hw : s.transmitsFor fun x y => s.fg = x ∨ s.fg = y)
    (hl : s.lpm = false) (h : s.released) (htr : s.direction = .read → s.ctl.tr = false) : s.inPhase := by
  rcases hw with ⟨hd, e | e⟩ | ⟨hd, hc, e | e⟩ <;> simp [State.inPhase, State.setupDone, *]

/-- What a receive tier does to a receive in progress, waited for in phase 2 (R91 to R93, R102). -/
theorem State.inPhase_rx (s v : State) (hrec : s.receiving) (hd : s.direction = .read)
    (hw : s.awaits Fg.r2Sleep Fg.r2Settle) (hf : s.ifg.rxFull = true)
    (hv : s.receiveTier v) : v.inPhase := by
  rcases hv with ⟨hr, rfl⟩ | ⟨hr, rfl⟩ | ⟨hr, rfl⟩
  · exact State.inPhase_of_receiving _ hd hw (State.receiving_rxCont s hrec hf hr)
  · exact State.inPhase_of_receiving _ hd hw (State.receiving_rxPenult s hrec hf hr)
  · refine State.inPhase_of_receiveDone _ (by simpa using hd) ?_ (by simp) ⟨State.released_rxLast s hrec hf hr, ?_⟩
    · rcases hw with ⟨e, -⟩ | ⟨e, -⟩ <;> simp [e]
    · obtain ⟨-, -, htr, -, ⟨hn, -⟩ | ⟨hn, -⟩ | ⟨hn, hc, -⟩⟩ := State.receiving_of_rxFull s hrec hf
      · simp [hn] at hr
      · simp [hn] at hr
      · simp [htr, hn, hc]

/-- What a transmit tier does to a transmit in progress, waited for in `WRITE` or in phase 1 of `READ` (R94 to R96). -/
theorem State.inPhase_tx (s v : State) (htr : s.transmitting) (hf : s.ifg.txEmpty = true)
    (hw : s.transmitsFor s.awaits)
    (hv : s.transmitTier v) : v.inPhase := by
  rcases hv with ⟨-, rfl⟩ | ⟨-, rfl⟩ | ⟨-, rfl⟩
  · exact State.inPhase_of_transmitting _ hw (State.transmitting_writeTxbuf s _ _ htr hf)
  · exact State.inPhase_of_transmitting _ hw (State.transmitting_writeTxbuf s _ _ htr hf)
  · refine State.inPhase_of_transmitDone _ ?_ (by simp) (State.released_txDone s htr hf)
      fun hd => by simp at hd; simp [hd]
    rcases hw with ⟨hd, ⟨e, -⟩ | ⟨e, -⟩⟩ | ⟨hd, hc, ⟨e, -⟩ | ⟨e, -⟩⟩ <;> simp [State.transmitsFor, *]

/-- A rule that no data event selects leaves foreground and transaction as they are, under `Ignore` (R97 to R101). -/
theorem exec_event_samePhase (s v : State) (hp : s.par.nackPolicy = .ignore) (hr : s.iv ≠ Ev.rxFull)
    (ht : s.iv ≠ Ev.txEmpty) (h : exec s.selectedEvent s = .next v) : s.samePhase v := by
  have hk := State.surfacesError_of_ignore s hp
  rcases exec_event_cases s v h with ⟨e, -⟩ | ⟨e, -⟩ | ⟨e, -⟩ | ⟨e, -⟩ | ⟨-, ⟨k, -⟩ | ⟨-, rfl⟩⟩ |
    ⟨-, ⟨k, -⟩ | ⟨-, rfl⟩⟩ | ⟨-, rfl⟩ | ⟨-, rfl⟩ | ⟨-, rfl⟩
  · exact absurd e hr
  · exact absurd e hr
  · exact absurd e ht
  · exact absurd e ht
  · simp [hk] at k
  · simp [State.samePhase]
  · simp [hk] at k
  · simp [State.samePhase]
  · simp [State.samePhase]
  · simp [State.samePhase]
  · simp [State.samePhase]

/-- A handler rule keeps foreground and transaction in step (R90 to R101). -/
theorem State.inPhase_event (s v : State) (hp : s.protocol) (h : exec s.selectedEvent s = .next v) : v.inPhase := by
  obtain ⟨hig, hiv, hin⟩ := hp
  have ha := State.aborted_of_ignore s hig
  have hother (hr : s.iv ≠ Ev.rxFull) (ht : s.iv ≠ Ev.txEmpty) : v.inPhase :=
    State.inPhase_congr s v (exec_event_samePhase s v hig hr ht h) hin
  rcases exec_event_cases s v h with ⟨-, a, -⟩ | ⟨e, -, -, hv⟩ | ⟨-, a, -⟩ | ⟨e, -, hv⟩ | ⟨e, -⟩ | ⟨e, -⟩ | ⟨e, -⟩ |
    ⟨e, -⟩ | ⟨e | e, -⟩
  · simp [ha] at a
  · have hf := (State.data_flag_of_iv s hiv).1 e
    obtain ⟨hrec, hd, hw⟩ := State.inPhase_of_rxFull s hin hf
    exact State.inPhase_rx s v hrec hd hw hf hv
  · simp [ha] at a
  · have hf := (State.data_flag_of_iv s hiv).2 e
    obtain ⟨htr, hw⟩ := State.inPhase_of_txEmpty s hin hf
    exact State.inPhase_tx s v htr hf hw hv
  all_goals exact hother (by simp [e]) (by simp [e])

/-! ### The peripheral -/

theorem State.free_periphStep (s : State) (p : PeriphStep) (h : s.free) : (s.periphStep p).free := by
  obtain ⟨⟨hr, ht, hb, hs⟩, hbus, hp⟩ := h
  rcases State.periphStep_cases s p with e | ⟨k, -⟩ | ⟨k, -⟩ | ⟨k, -⟩ | ⟨⟨k, -⟩ | k, -⟩ | ⟨x, e⟩
  · rw [e]
    exact ⟨⟨hr, ht, hb, hs⟩, hbus, hp⟩
  · simp [hs] at k
  · simp [hbus] at k
  · simp [hbus] at k
  · simp [hbus] at k
  · simp [hbus] at k
  · rw [e]
    simp [State.free, State.quiet, hr, ht, hb, hs, hbus, hp]

/-- A step of the peripheral keeps each form of the transaction, so the foreground stays in step with it. -/
theorem State.inPhase_periphStep (s : State) (p : PeriphStep) (h : s.inPhase) : (s.periphStep p).inPhase := by
  obtain ⟨-, -, ⟨hd, -, hn, -, -, hc, -⟩, hf, hl, -, -, htr, -⟩ := State.periphStep_keeps s p
  have hfree := State.free_periphStep s p
  have hrel := State.released_periphStep s p
  have htx := State.transmitting_periphStep s p
  have hrx := State.receiving_periphStep s p
  simp only [State.inPhase, State.setupDone, State.receiveDone, hd, hn, hc, hf, hl, htr] at h ⊢
  revert h
  gcongr

/-! ### One step -/

theorem State.protocol_latchIv (v : State) (n : Nat) (hig : v.par.nackPolicy = .ignore) (h : v.inPhase) :
    (v.latchIv n).protocol :=
  ⟨by simpa using hig, State.ivConsistent_latchIv v n, State.inPhase_latchIv v n h⟩

/-- What `released` reads. -/
theorem State.released_congr (s v : State) (hc : v.ctl = s.ctl) (hi : v.ifg = s.ifg) (hb : v.bus = s.bus)
    (ht : v.txbufFull = s.txbufFull) : v.released ↔ s.released := by
  simp only [State.released, State.free, State.releasing, State.quiet, hc, hi, hb, ht]

/-- At `IDLE`, where commands are accepted, the block is between two transactions (R80, R81). -/
theorem State.inPhase_idle (s : State) (h : s.inPhase) (hf : s.fg = Fg.idle) : s.lpm = false ∧ s.released := by
  simpa [State.inPhase, hf] using h

theorem State.inPhase_of_wPoll (s : State) (hf : s.fg = Fg.wPoll) (hl : s.lpm = false) (hd : s.direction = .write)
    (hr : s.released) : s.inPhase := by
  simp [State.inPhase, *]

theorem State.inPhase_of_r1Poll (s : State) (hf : s.fg = Fg.r1Poll) (hl : s.lpm = false) (hd : s.direction = .read)
    (hc : s.rxCursor = 0) (hr : s.released) : s.inPhase := by
  simp [State.inPhase, *]

/-- The step keeps the protocol, whoever moves. -/
theorem protocol_step (s t : State) (h : step s = .next t) (hp : s.protocol) : t.protocol := by
  have hs := State.protocol_takeTurn s hp
  obtain ⟨hig, -, hin⟩ := id hs
  cases step_outcome s t h with
  | write w ws a d ha hc hd ht =>
    subst ht
    obtain ⟨-, hf, -⟩ := ha
    obtain ⟨hl, hr⟩ := State.inPhase_idle s hp.2.2 hf
    exact State.protocol_latchIv _ _ (by simpa using hig) (State.inPhase_of_wPoll _ (by simp) (by simpa using hl)
      (by simp) ((State.released_congr s _ (by simp) (by simp) (by simp) (by simp)).mpr hr))
  | read w ws a ha hc hd ht =>
    subst ht
    obtain ⟨-, hf, -⟩ := ha
    obtain ⟨hl, hr⟩ := State.inPhase_idle s hp.2.2 hf
    exact State.protocol_latchIv _ _ (by simpa using hig) (State.inPhase_of_r1Poll _ (by simp) (by simpa using hl)
      (by simp) (by simp) ((State.released_congr s _ (by simp) (by simp) (by simp) (by simp)).mpr hr))
  | position u hm hl hi hu ht =>
    subst ht
    have hi' : s.takeTurn.fg ≠ Fg.idle := by simpa using hi
    have hu' := State.inPhase_position _ u hin (by simpa using hl) (State.aborted_of_ignore _ hig) hi' hu
    obtain ⟨⟨hpar, -⟩, -⟩ := exec_position_keeps _ u hi' hu
    exact State.protocol_latchIv _ _ (by simpa [hpar] using hig) (State.inPhase_noteWake _ _ hu')
  | boot hm hr hf hl ht =>
    subst ht
    exact State.protocol_latchIv _ _ (by simpa using hig)
      (State.inPhase_congr _ _ (by simp [State.samePhase]) hin)
  | event u hm he hu ht =>
    subst ht
    obtain ⟨⟨hpar, -⟩, -⟩ := exec_event_keeps _ u hu
    exact State.protocol_latchIv _ _ (by simpa [hpar] using hig)
      (State.inPhase_noteWake _ _ (State.inPhase_event _ u hs hu))
  | periph p hm ht =>
    subst ht
    obtain ⟨⟨hpar, -⟩, -⟩ := State.periphStep_keeps s.takeTurn p
    exact State.protocol_latchIv _ _ (by simpa [hpar] using hig) (State.inPhase_periphStep _ p hin)
  | host w hm ht =>
    subst ht
    exact State.protocol_latchIv _ _ (by simpa using hig)
      (State.inPhase_congr _ _ (by simp [State.samePhase]) hin)
  | pass hm ht =>
    subst ht
    exact State.protocol_latchIv _ _ hig hin

/-! ### No step stops the machine -/

theorem Instr.wf_decodeCommand (w : CmdWord) : (decodeCommand w).wf = true := by
  unfold decodeCommand
  split <;> rfl

theorem encode_decodeCommand_ne_event (w : CmdWord) (c : EventCode) : encode (decodeCommand w) ≠ .event c := by
  unfold decodeCommand
  split <;> exact fun e => by cases e

theorem encode_decodePosition (x : FgCode) : encode (decodePosition x) = .position x := by
  revert x
  decide

theorem Instr.wf_decodeEvent (c : EventCode) (tx rx : Counter) : (decodeEvent c tx rx).wf = true := by
  rcases EventCode.cases c with rfl | rfl | rfl | rfl | rfl | rfl | rfl | rfl
  · rfl
  · rfl
  · rfl
  · rfl
  · rfl
  · rw [decodeEvent_rxFull]
    split_ifs <;> rfl
  · rw [decodeEvent_txEmpty]
    split_ifs <;> rfl
  · rfl

theorem Instr.wf_decodePosition (x : FgCode) (h : fgReserved x = false) : (decodePosition x).wf = true := by
  revert x
  decide

/-- No operation stops the machine but a reserved position, or a receive event past the last cell (R41, R68, R180). -/
theorem exec_next (i : Instr) (s : State) (hi : i.wf = true)
    (hc : encode i = .event Ev.rxFull → s.rxCursor ≠ 3) : ∃ v, exec i s = .next v := by
  cases i
  case rxCont =>
    cases ha : s.aborted
    · exact ⟨_, execRxCont_stores s ha (hc rfl)⟩
    · exact ⟨_, execRxCont_aborted s ha⟩
  case rxPenult =>
    cases ha : s.aborted
    · exact ⟨_, execRxPenult_stores s ha (hc rfl)⟩
    · exact ⟨_, execRxPenult_aborted s ha⟩
  case rxLast =>
    cases ha : s.aborted
    · exact ⟨_, execRxLast_stores s ha (hc rfl)⟩
    · exact ⟨_, execRxLast_aborted s ha⟩
  case txAddr =>
    cases ha : s.aborted
    · exact ⟨_, execTxAddr_sends s ha⟩
    · exact ⟨_, execTxAddr_aborted s ha⟩
  case txData =>
    cases ha : s.aborted
    · exact ⟨_, execTxData_sends s ha⟩
    · exact ⟨_, execTxData_aborted s ha⟩
  case txDone =>
    cases ha : s.aborted
    · exact ⟨_, execTxDone_stops s ha⟩
    · exact ⟨_, execTxDone_aborted s ha⟩
  case r1Settle =>
    cases ha : s.aborted
    · exact ⟨_, execR1Settle_ok s ha⟩
    · exact ⟨_, execR1Settle_aborted s ha⟩
  case evArbLost =>
    cases hk : s.surfacesError <;> exact ⟨_, by simp only [exec, execEvArbLost, hk]; rfl⟩
  case evNack =>
    cases hk : s.surfacesError <;> exact ⟨_, by simp only [exec, execEvNack, hk]; rfl⟩
  case fgReserved14 | fgReserved15 => cases hi
  all_goals exact ⟨_, rfl⟩

/-- Under the protocol a receive event finds a cell to store to (R41, R102). -/
theorem State.cursor_of_rxFull (s : State) (hp : s.protocol) (e : s.iv = Ev.rxFull) : s.rxCursor ≠ 3 := by
  obtain ⟨-, hiv, hin⟩ := hp
  have hf := (State.data_flag_of_iv s hiv).1 e
  obtain ⟨hrec, -⟩ := State.inPhase_of_rxFull s hin hf
  obtain ⟨-, -, -, -, ⟨-, hc, -⟩ | ⟨-, hc, -⟩ | ⟨-, hc, -⟩⟩ := State.receiving_of_rxFull s hrec hf <;> simp [hc]

/-- The operation that a turn selects is well formed, and, as a receive event, has a cell to store to. -/
theorem State.fetch_safe (s u : State) (m : Move) (i : Instr) (hp : s.protocol) (h : s.fetch m = some (i, u)) :
    i.wf = true ∧ (encode i = .event Ev.rxFull → u.rxCursor ≠ 3) := by
  rcases State.fetch_cases s m i u h with ⟨-, h⟩ | ⟨-, -, rfl, rfl⟩
  · obtain ⟨-, ⟨-, -, ⟨-, rfl, rfl⟩ | ⟨w, ws, -, rfl, rfl⟩⟩ | ⟨-, -, rfl, rfl⟩⟩ := State.fetchForeground_cases s i u h
    · exact ⟨rfl, fun e => by cases e⟩
    · exact ⟨Instr.wf_decodeCommand w, fun e => absurd e (encode_decodeCommand_ne_event w _)⟩
    · have hr := State.fgReserved_of_inPhase u hp.2.2
      refine ⟨Instr.wf_decodePosition _ hr, fun e => ?_⟩
      cases (encode_decodePosition u.fg).symm.trans e
  · refine ⟨Instr.wf_decodeEvent _ _ _, fun e => State.cursor_of_rxFull u hp ?_⟩
    rw [encode_decodeEvent] at e
    exact Code.event.inj e

/-- Under the protocol the step goes on. -/
theorem step_next_of_protocol (s : State) (hp : s.protocol) : ∃ t, step s = .next t := by
  obtain ⟨hfg, hst⟩ := State.not_reserved_of_protocol s hp
  cases hf : s.takeTurn.fetch s.turn.move with
  | none => exact ⟨_, step_of_no_fetch s hfg hst hf⟩
  | some o =>
    obtain ⟨i, u⟩ := o
    obtain ⟨hi, hc⟩ := State.fetch_safe _ u _ i (State.protocol_takeTurn s hp) hf
    obtain ⟨v, hv⟩ := exec_next i u hi hc
    exact ⟨_, by rw [step_of_fetch s i u hfg hst hf, hv, andThen_next]⟩

/-- Settles O48: no turn under the protocol has an operation that faults, and each agent's turn keeps the protocol. -/
theorem protocolKept : Obligations.ProtocolKept := by
  intro s hp
  obtain ⟨t, ht⟩ := step_next_of_protocol s hp
  exact ⟨t, ht, protocol_step s t ht hp⟩

end Sys2Proof.Machine
end

section
/-! Proofs: who writes what, over every step of every agent (R10 to R16, R21 to R28, R33, R38, R192). Each statement
splits on `StepOutcome`, and takes what an agent leaves alone from that agent's frame lemma. -/

namespace Sys2Proof.Machine

/-! ### The configuration and the status vector -/

/-- Only `CONFIG` writes the configuration (R192). -/
theorem StepOutcome.sameConfig_or_boot {s t : State} (h : StepOutcome s t) :
    s.sameConfig t ∨ (s.turn.move = .foreground ∧ s.ctl.swrst = true ∧ s.fg = Fg.idle ∧ s.lpm = false ∧
      t = s.takeTurn.bootConfig.latchIv s.turn.ivPick) := by
  cases h with
  | write w ws a d ha hc hd ht => exact .inl (by simp [ht, State.sameConfig])
  | read w ws a ha hc hd ht => exact .inl (by simp [ht, State.sameConfig])
  | position u hm hl hi hu ht =>
    obtain ⟨hk, -⟩ := exec_position_keeps _ u (by simpa using hi) hu
    exact .inl (by simpa [ht, State.sameConfig] using hk)
  | boot hm hr hf hl ht => exact .inr ⟨hm, hr, hf, hl, ht⟩
  | event u hm he hu ht =>
    obtain ⟨hk, -⟩ := exec_event_keeps _ u hu
    exact .inl (by simpa [ht, State.sameConfig] using hk)
  | periph p hm ht =>
    obtain ⟨hk, -⟩ := State.periphStep_keeps s.takeTurn p
    exact .inl (by simpa [ht, State.sameConfig] using hk)
  | host w hm ht => exact .inl (by simp [ht, State.sameConfig])
  | pass hm ht => exact .inl (by simp [ht, State.sameConfig])

/-- The command port over a step: as it was, one word longer, or one word shorter (R38). -/
theorem StepOutcome.cmds_cases {s t : State} (h : StepOutcome s t) :
    t.cmds = s.cmds ∨ (∃ w, s.turn.move = .host w ∧ t.cmds = s.cmds ++ [w]) ∨
    ∃ w ws, s.cmds = w :: ws ∧ t.cmds = ws ∧ s.accepts (decodeCommand w) := by
  cases h with
  | write w ws a d ha hc hd ht => exact .inr (.inr ⟨w, ws, hc, by simp [ht, hc], hd ▸ ha⟩)
  | read w ws a ha hc hd ht => exact .inr (.inr ⟨w, ws, hc, by simp [ht, hc], hd ▸ ha⟩)
  | position u hm hl hi hu ht =>
    obtain ⟨-, hk, -⟩ := exec_position_keeps _ u (by simpa using hi) hu
    exact .inl (by simpa [ht] using hk)
  | boot hm hr hf hl ht => exact .inl (by simp [ht])
  | event u hm he hu ht =>
    obtain ⟨-, ⟨hk, -⟩, -⟩ := exec_event_keeps _ u hu
    exact .inl (by simpa [ht] using hk)
  | periph p hm ht =>
    obtain ⟨-, ⟨hk, -⟩, -⟩ := State.periphStep_keeps s.takeTurn p
    exact .inl (by simpa [ht] using hk)
  | host w hm ht => exact .inr (.inl ⟨w, hm, by simp [ht]⟩)
  | pass hm ht => exact .inl (by simp [ht])

/-- Settles O45: the configuration is written by `CONFIG` alone, which ends the reset. -/
theorem configurationWrittenOnce : Obligations.ConfigurationWrittenOnce := by
  intro s t h
  have ho := step_outcome s t h
  have hcmds (hr : s.ctl.swrst = true) : t.cmds = s.cmds ∨ ∃ w, t.cmds = s.cmds ++ [w] := by
    rcases ho.cmds_cases with e | ⟨w, -, e⟩ | ⟨w, ws, -, -, -, -, -, hn, -⟩
    · exact .inl e
    · exact .inr ⟨w, e⟩
    · simp [hr] at hn
  rcases ho.sameConfig_or_boot with ⟨hpar, hrst, hregs⟩ | ⟨hm, hr, hf, hl, rfl⟩
  · exact ⟨hpar, fun hr => ⟨hrst.trans hr, hregs⟩, fun hr => ⟨hcmds hr, fun hn => by simp [hrst, hr] at hn,
      fun _ => hregs⟩⟩
  · exact ⟨by simp, fun hn => by simp [hr] at hn, fun _ => ⟨hcmds hr, fun _ => ⟨hf, hl, hm⟩, fun hn => by simp at hn⟩⟩

/-- A cause is pending and enabled if its flag and its enable are set (R168). -/
theorem EventBits.has_both (a b : EventBits) (c : EventCode) : (a.both b).has c = (a.has c && b.has c) := by
  rcases EventCode.cases c with rfl | rfl | rfl | rfl | rfl | rfl | rfl | rfl <;> rfl

theorem State.has_pending_iff (s : State) (c : EventCode) :
    s.pending.has c = true ↔ s.ifg.has c = true ∧ s.ie.has c = true := by
  rw [State.pending, EventBits.has_both, Bool.and_eq_true, and_comm]

theorem State.causePending_iff (s : State) : s.causePending = true ↔ ∃ c, s.pending.has c = true := by
  simp [State.causePending, ← EventBits.mem_codes, List.eq_nil_iff_forall_not_mem]

/-- Every step ends in a state whose vector is as R33 says. -/
theorem step_ivConsistent (s t : State) (h : step s = .next t) : t.ivConsistent = true := by
  obtain ⟨v, rfl, -⟩ := step_outcomes s t h
  exact State.ivConsistent_latchIv v _

/-- Settles O35: the latch picks from the codes of the pending enabled causes, any of them. -/
theorem statusVectorRule : Obligations.StatusVectorRule := by
  refine ⟨fun s t h => ?_, fun s c hf he => ?_⟩
  · rcases State.iv_of_ivConsistent t (step_ivConsistent s t h) with hp | ⟨hn, hp⟩
    · exact .inl ((State.has_pending_iff t _).mp hp)
    · refine .inr ⟨hn, fun c hc => ?_⟩
      have hc' := (State.causePending_iff t).mpr ⟨c, (State.has_pending_iff t c).mpr hc⟩
      simp [hp] at hc'
  · have hm := (EventBits.mem_codes _ c).mpr ((State.has_pending_iff s c).mpr ⟨hf, he⟩)
    simpa using pickCode_surjective _ c hm

/-! ### The foreground's position, and the ports -/

/-- Settles O26: a command leaves `IDLE`, a micro-operation its own position, and no other agent writes `fg`. -/
theorem foregroundOrder : Obligations.ForegroundOrder := by
  intro s t h
  cases step_outcome s t h with
  | write w ws a d ha hc hd ht =>
    obtain ⟨hm, hf, hl, -⟩ := id ha
    exact ⟨fun hn => absurd hm hn, fun _ => ⟨hm, hl, .inl ⟨hf, .inl ⟨by simp [ht], a, d, ha⟩⟩⟩⟩
  | read w ws a ha hc hd ht =>
    obtain ⟨hm, hf, hl, -⟩ := id ha
    exact ⟨fun hn => absurd hm hn, fun _ => ⟨hm, hl, .inl ⟨hf, .inr ⟨by simp [ht], a, ha⟩⟩⟩⟩
  | position u hm hl hi hu ht =>
    rcases exec_position_cases _ u (by simpa using hi) hu with ⟨e, rfl⟩ | ⟨e, rfl⟩ | ⟨e, rfl⟩ | ⟨e, rfl⟩ | ⟨e, rfl⟩ |
      ⟨e, rfl⟩ | ⟨e, rfl⟩ | ⟨e, a, rfl⟩ | ⟨e, a, rfl⟩ | ⟨e, rfl⟩ | ⟨e, rfl⟩ | ⟨e, rfl⟩ | ⟨e, rfl⟩ | ⟨e, rfl⟩ <;>
      simp_all
  | boot hm hr hf hl ht => simp [ht]
  | event u hm he hu ht =>
    obtain ⟨-, -, -, hf, -⟩ := exec_event_keeps _ u hu
    simp [ht, hf]
  | periph p hm ht =>
    obtain ⟨-, -, -, hf, -⟩ := State.periphStep_keeps s.takeTurn p
    simp [ht, hf]
  | host w hm ht => simp [ht]
  | pass hm ht => simp [ht]

/-- What the response port carries of `status`, under either policy (R25, R163). -/
theorem State.respStatus_cases (s : State) :
    (s.par.nackPolicy = .ignore ∧ s.respStatus = none) ∨
    (s.par.nackPolicy = .surface ∧ s.respStatus = some s.status) := by
  cases hp : s.par.nackPolicy <;> simp [State.respStatus, State.surface, hp]

/-- The response port over a step: silent, or the response of a call that returns (R114, R124, R129). -/
theorem StepOutcome.responses_cases {s t : State} (h : StepOutcome s t) :
    (t.responses = s.responses ∧ ¬ (s.fg ≠ Fg.idle ∧ t.fg = Fg.idle)) ∨
    (s.fg = Fg.wSettle ∧ t.fg = Fg.idle ∧ t.responses = s.responses ++ [Response.written s.respStatus]) ∨
    ((s.fg = Fg.r1Settle ∨ s.fg = Fg.r2Settle) ∧ t.fg = Fg.idle ∧
      t.responses = s.responses ++ [Response.bytes (s.cell 0) (s.cell 1) (s.cell 2) s.respStatus]) := by
  cases h with
  | write w ws a d ha hc hd ht => exact .inl (by simp [ht])
  | read w ws a ha hc hd ht => exact .inl (by simp [ht])
  | position u hm hl hi hu ht =>
    have hst : s.takeTurn.respStatus = s.respStatus := by simp [State.respStatus, State.surface]
    have hcell (i : Nat) : s.takeTurn.cell i = s.cell i := by simp [State.cell]
    rcases exec_position_cases _ u (by simpa using hi) hu with ⟨e, rfl⟩ | ⟨e, rfl⟩ | ⟨e, rfl⟩ | ⟨e, rfl⟩ | ⟨e, rfl⟩ |
      ⟨e, rfl⟩ | ⟨e, rfl⟩ | ⟨e, -, rfl⟩ | ⟨e, -, rfl⟩ | ⟨e, rfl⟩ | ⟨e, rfl⟩ | ⟨e, rfl⟩ | ⟨e, rfl⟩ | ⟨e, rfl⟩ <;>
      simp at e <;> simp [ht, e, hst, hcell] <;> split <;> decide
  | boot hm hr hf hl ht => exact .inl (by simp [ht])
  | event u hm he hu ht =>
    obtain ⟨-, ⟨-, hk⟩, -, hf, -⟩ := exec_event_keeps _ u hu
    exact .inl (by simp [ht, hk, hf])
  | periph p hm ht =>
    obtain ⟨-, ⟨-, hk⟩, -, hf, -⟩ := State.periphStep_keeps s.takeTurn p
    exact .inl (by simp [ht, hk, hf])
  | host w hm ht => exact .inl (by simp [ht])
  | pass hm ht => exact .inl (by simp [ht])

/-- Settles O37: a word leaves the port when it is accepted, and a response is carried when `fg` returns to `IDLE`. -/
theorem hostPorts : Obligations.HostPorts := by
  refine ⟨fun s => by simp [State.cmdReady], fun s t h => ?_⟩
  have ho := step_outcome s t h
  have hst := State.respStatus_cases s
  have hcmds : t.cmds = s.cmds ∨ (∃ w, s.turn.move = .host w ∧ t.cmds = s.cmds ++ [w]) ∨
      (s.cmdReady = true ∧ ∃ w ws, s.cmds = w :: ws ∧ t.cmds = ws ∧ s.accepts (decodeCommand w)) := by
    rcases ho.cmds_cases with e | e | ⟨w, ws, hc, ht, ha⟩
    · exact .inl e
    · exact .inr (.inl e)
    · obtain ⟨-, hf, -⟩ := id ha
      exact .inr (.inr ⟨by simp [State.cmdReady, hf], w, ws, hc, ht, ha⟩)
  refine ⟨hcmds, ?_⟩
  rcases ho.responses_cases with ⟨e, hn⟩ | ⟨hf, ht, e⟩ | ⟨hf, ht, e⟩
  · exact ⟨iff_of_false hn (not_not.mpr e), .inl e⟩
  · exact ⟨iff_of_true ⟨by simp [hf], ht⟩ (by simp [e]), .inr ⟨_, hst, .inl ⟨hf, e⟩⟩⟩
  · exact ⟨iff_of_true ⟨by rcases hf with hf | hf <;> simp [hf], ht⟩ (by simp [e]), .inr ⟨_, hst, .inr ⟨hf, e⟩⟩⟩

end Sys2Proof.Machine
end

section
/-! Proofs: TransactionState, the wait flag and the interrupt enable, over every step of every agent (R10 to R16, R23,
R24, R172). -/

namespace Sys2Proof.Machine

/-! ### TransactionState -/

/-- What a handler rule does to the counters, the cursor and the receive destination (R91 to R96). -/
theorem exec_event_transaction (s v : State) (h : exec s.selectedEvent s = .next v) :
    (v.txRemaining = s.txRemaining ∨
      (s.iv = Ev.txEmpty ∧ s.txRemaining ≠ 0 ∧ v.txRemaining = s.txRemaining - 1)) ∧
    (v.rxRemaining = s.rxRemaining ∨
      (s.iv = Ev.rxFull ∧ (s.rxRemaining ≠ 0 → v.rxRemaining = s.rxRemaining - 1))) ∧
    (v.rxCursor = s.rxCursor ∨
      (s.iv = Ev.rxFull ∧ 2 ≤ s.rxRemaining ∧ s.rxCursor ≠ 3 ∧ v.rxCursor = s.rxCursor + 1)) ∧
    (v.rxBuf = s.rxBuf ∨
      (s.iv = Ev.rxFull ∧ s.rxCursor ≠ 3 ∧ v.rxBuf = Memory.write s.rxBuf s.rxCursor.toNat s.rxbuf)) := by
  rcases exec_event_cases s v h with ⟨-, -, rfl⟩ | ⟨e, -, hc, ⟨hr, rfl⟩ | ⟨hr, rfl⟩ | ⟨hr, rfl⟩⟩ | ⟨-, -, rfl⟩ |
    ⟨e, -, ⟨hr, rfl⟩ | ⟨hr, rfl⟩ | ⟨hr, rfl⟩⟩ | ⟨-, ⟨-, rfl⟩ | ⟨-, rfl⟩⟩ | ⟨-, ⟨-, rfl⟩ | ⟨-, rfl⟩⟩ | ⟨-, rfl⟩ |
    ⟨-, rfl⟩ | ⟨-, rfl⟩
  · simp
  · exact ⟨.inl (by simp), .inr ⟨e, fun _ => by simp⟩, .inr ⟨e, by bv_omega, hc, by simp⟩, .inr ⟨e, hc, by simp⟩⟩
  · exact ⟨.inl (by simp), .inr ⟨e, fun _ => by simp⟩, .inr ⟨e, by bv_omega, hc, by simp⟩, .inr ⟨e, hc, by simp⟩⟩
  · refine ⟨.inl (by simp), .inr ⟨e, fun h0 => ?_⟩, .inl (by simp), .inr ⟨e, hc, by simp⟩⟩
    have h1 : s.rxRemaining = 1 := by bv_omega
    simp [h1]
  · simp
  · exact ⟨.inr ⟨e, by bv_omega, by simp⟩, .inl (by simp), .inl (by simp), .inl (by simp)⟩
  · exact ⟨.inr ⟨e, by bv_omega, by simp [hr]⟩, .inl (by simp), .inl (by simp), .inl (by simp)⟩
  all_goals simp

/-- What a micro-operation does to TransactionState: `R2_INIT` sets `rx_remaining` (R82). -/
theorem exec_position_transaction (s v : State) (hi : s.fg ≠ Fg.idle) (h : exec (decodePosition s.fg) s = .next v) :
    v.txRemaining = s.txRemaining ∧ v.rxCursor = s.rxCursor ∧ v.rxBuf = s.rxBuf ∧
    (v.rxRemaining = s.rxRemaining ∨ (s.fg = Fg.r2Init ∧ v.rxRemaining = 3)) := by
  rcases exec_position_cases s v hi h with ⟨-, rfl⟩ | ⟨-, rfl⟩ | ⟨-, rfl⟩ | ⟨-, rfl⟩ | ⟨-, rfl⟩ | ⟨-, rfl⟩ | ⟨-, rfl⟩ |
    ⟨-, -, rfl⟩ | ⟨-, -, rfl⟩ | ⟨e, rfl⟩ | ⟨-, rfl⟩ | ⟨-, rfl⟩ | ⟨-, rfl⟩ | ⟨-, rfl⟩ <;>
    simp [*]

/-- Settles O30: TransactionState is written by the two commands, `R2_INIT` and the data tiers. -/
theorem transactionStateWriters : Obligations.TransactionStateWriters := by
  intro s t h
  cases step_outcome s t h with
  | write w ws a d ha hc hd ht =>
    have hw : ∃ a d, s.accepts (.write a d) := ⟨a, d, ha⟩
    exact ⟨.inr (.inl ⟨by simp [ht], hw⟩), .inr (.inl ⟨by simp [ht], hw⟩), .inl (by simp [ht]),
      .inr ⟨a, d, ha, by simp [ht]⟩, .inr (.inl ⟨a, d, ha, by simp [ht]⟩), .inl (by simp [ht]), .inl (by simp [ht])⟩
  | read w ws a ha hc hd ht =>
    have hr : ∃ a, s.accepts (.read a) := ⟨a, ha⟩
    exact ⟨.inr (.inr ⟨by simp [ht], hr⟩), .inr (.inr (.inl ⟨by simp [ht], hr⟩)), .inl (by simp [ht]),
      .inl (by simp [ht]), .inr (.inr ⟨a, ha, by simp [ht]⟩), .inr (.inl ⟨by simp [ht], hr⟩), .inl (by simp [ht])⟩
  | position u hm hl hi hu ht =>
    obtain ⟨-, -, ⟨hdir, haddr, hdata⟩, -⟩ := exec_position_keeps _ u (by simpa using hi) hu
    obtain ⟨htx, hcur, hbuf, hrx⟩ := exec_position_transaction _ u (by simpa using hi) hu
    refine ⟨.inl (by simp [ht, hdir]), .inl (by simp [ht, htx]), ?_, .inl (by simp [ht, haddr]),
      .inl (by simp [ht, hdata]), .inl (by simp [ht, hcur]), .inl (by simp [ht, hbuf])⟩
    rcases hrx with hrx | ⟨hf, hrx⟩
    · exact .inl (by simp [ht, hrx])
    · exact .inr (.inl ⟨by simp [ht, hrx], hm, by simpa using hf⟩)
  | boot hm hr hf hl ht => simp [ht]
  | event u hm he hu ht =>
    obtain ⟨-, -, ⟨hdir, haddr, hdata⟩, -⟩ := exec_event_keeps _ u hu
    obtain ⟨htx, hrx, hcur, hbuf⟩ := exec_event_transaction _ u hu
    refine ⟨.inl (by simp [ht, hdir]), ?_, ?_, .inl (by simp [ht, haddr]), .inl (by simp [ht, hdata]), ?_, ?_⟩
    · exact htx.imp (by simp [ht]) fun k => .inr (.inr ⟨hm, by simpa [ht] using k⟩)
    · exact hrx.imp (by simp [ht]) fun k => .inr ⟨hm, by simpa [ht] using k⟩
    · exact hcur.imp (by simp [ht]) fun k => .inr ⟨hm, by simpa [ht] using k⟩
    · exact hbuf.imp (by simp [ht]) fun k => ⟨hm, by simpa [ht] using k⟩
  | periph p hm ht =>
    obtain ⟨-, -, ⟨hdir, htx, hrx, haddr, hdata, hcur, hbuf⟩, -⟩ := State.periphStep_keeps s.takeTurn p
    simp [ht, hdir, htx, hrx, haddr, hdata, hcur, hbuf]
  | host w hm ht => simp [ht]
  | pass hm ht => simp [ht]

/-! ### The wait flag and the interrupt enable -/

theorem State.inArmWindow_iff (s : State) :
    s.inArmWindow = true ↔ s.fg = Fg.wSleep ∨ s.fg = Fg.r1Sleep ∨ s.fg = Fg.r2Sleep := by
  simp [State.inArmWindow, or_assoc]

/-- A micro-operation sets `lpm` and `gie` if it is a `*_SLEEP`, and leaves both alone if not (R113, R123, R128). -/
theorem exec_position_sleep (s v : State) (hi : s.fg ≠ Fg.idle) (h : exec (decodePosition s.fg) s = .next v) :
    (s.inArmWindow = true ∧ v.lpm = true ∧ v.gie = true) ∨
    (s.inArmWindow = false ∧ v.lpm = s.lpm ∧ v.gie = s.gie) := by
  rcases exec_position_cases s v hi h with ⟨e, rfl⟩ | ⟨e, rfl⟩ | ⟨e, rfl⟩ | ⟨e, rfl⟩ | ⟨e, rfl⟩ | ⟨e, rfl⟩ | ⟨e, rfl⟩ |
    ⟨e, -, rfl⟩ | ⟨e, -, rfl⟩ | ⟨e, rfl⟩ | ⟨e, rfl⟩ | ⟨e, rfl⟩ | ⟨e, rfl⟩ | ⟨e, rfl⟩ <;>
    simp [State.inArmWindow, e]

/-- A handler rule counts a wake if it clears `lpm` (R35, R172). -/
theorem exec_event_wakeCount (s v : State) (h : exec s.selectedEvent s = .next v) :
    v.wakeCount = if s.lpm = true ∧ v.lpm = false then s.wakeCount + 1 else s.wakeCount := by
  cases hl : s.lpm <;>
  rcases exec_event_cases s v h with ⟨-, -, rfl⟩ | ⟨-, -, -, ⟨-, rfl⟩ | ⟨-, rfl⟩ | ⟨-, rfl⟩⟩ | ⟨-, -, rfl⟩ |
    ⟨-, -, ⟨-, rfl⟩ | ⟨-, rfl⟩ | ⟨-, rfl⟩⟩ | ⟨-, ⟨-, rfl⟩ | ⟨-, rfl⟩⟩ | ⟨-, ⟨-, rfl⟩ | ⟨-, rfl⟩⟩ | ⟨-, rfl⟩ |
    ⟨-, rfl⟩ | ⟨-, rfl⟩ <;>
  simp [hl]

/-- What a step does to `lpm`, `gie` and `wake_count`: a `*_SLEEP` sets the flags, a handler rule may wake, and nothing
else touches them. -/
inductive SleepOutcome (s t : State) : Prop where
  | sleeps (hm : s.turn.move = .foreground) (hl : s.lpm = false) (hw : s.inArmWindow = true) (ht : t.lpm = true)
    (hg : t.gie = true) (hc : t.wakeCount = s.wakeCount)
  | handles (hm : s.turn.move = .interrupt) (he : s.interruptEnabled = true) (ht : t.lpm = (s.lpm && !s.wakesSleeper))
    (hg : t.gie = s.gie)
    (hc : t.wakeCount = if s.lpm = true ∧ t.lpm = false then s.wakeCount + 1 else s.wakeCount)
  | keeps (hs : s.turn.move = .foreground → s.lpm = false → s.inArmWindow = false) (ht : t.lpm = s.lpm)
    (hg : t.gie = s.gie) (hc : t.wakeCount = s.wakeCount)

theorem StepOutcome.sleepOutcome {s t : State} (h : StepOutcome s t) : SleepOutcome s t := by
  cases h with
  | write w ws a d ha hc hd ht =>
    obtain ⟨-, hf, -⟩ := ha
    exact .keeps (fun _ _ => (State.outside_of_idle s hf).2) (by simp [ht]) (by simp [ht]) (by simp [ht])
  | read w ws a ha hc hd ht =>
    obtain ⟨-, hf, -⟩ := ha
    exact .keeps (fun _ _ => (State.outside_of_idle s hf).2) (by simp [ht]) (by simp [ht]) (by simp [ht])
  | position u hm hl hi hu ht =>
    obtain ⟨-, -, -, hk⟩ := exec_position_keeps _ u (by simpa using hi) hu
    rcases exec_position_sleep _ u (by simpa using hi) hu with ⟨hw, hlu, hgu⟩ | ⟨hw, hlu, hgu⟩
    · exact .sleeps hm hl (by simpa using hw) (by simp [ht, hlu]) (by simp [ht, hgu]) (by simp [ht, hk])
    · exact .keeps (fun _ _ => by simpa using hw) (by simp [ht, hlu]) (by simp [ht, hgu]) (by simp [ht, hk])
  | boot hm hr hf hl ht =>
    exact .keeps (fun _ _ => (State.outside_of_idle s hf).2) (by simp [ht]) (by simp [ht]) (by simp [ht])
  | event u hm he hu ht =>
    obtain ⟨-, -, -, -, hg, -⟩ := exec_event_keeps _ u hu
    exact .handles hm he (by simpa [ht] using exec_event_lpm _ u hu) (by simpa [ht] using hg)
      (by simpa [ht] using exec_event_wakeCount _ u hu)
  | periph p hm ht =>
    obtain ⟨-, -, -, -, hl, hg, hk, -⟩ := State.periphStep_keeps s.takeTurn p
    exact .keeps (by simp [hm]) (by simp [ht, hl]) (by simp [ht, hg]) (by simp [ht, hk])
  | host w hm ht => exact .keeps (by simp [hm]) (by simp [ht]) (by simp [ht]) (by simp [ht])
  | pass hp ht =>
    refine .keeps (fun hm => ?_) (by simp [ht]) (by simp [ht]) (by simp [ht])
    rcases hp with ⟨-, hs⟩ | ⟨hi, -⟩
    · exact hs
    · simp [hm] at hi

/-- A foreground that is suspended, and a handler that is not enabled, pass (R23, R169). -/
theorem StepOutcome.passes {s t : State} (h : StepOutcome s t)
    (hp : (s.turn.move = .foreground ∧ s.lpm = true) ∨ (s.turn.move = .interrupt ∧ s.interruptEnabled = false)) :
    t = s.takeTurn.latchIv s.turn.ivPick := by
  cases h with
  | write w ws a d ha hc hd ht =>
    obtain ⟨hm, -, hl, -⟩ := ha
    simp [hm, hl] at hp
  | read w ws a ha hc hd ht =>
    obtain ⟨hm, -, hl, -⟩ := ha
    simp [hm, hl] at hp
  | position u hm hl hi hu ht => simp [hm, hl] at hp
  | boot hm hr hf hl ht => simp [hm, hl] at hp
  | event u hm he hu ht => simp [hm, he] at hp
  | periph p hm ht => simp [hm] at hp
  | host w hm ht => simp [hm] at hp
  | pass _ ht => exact ht

theorem State.interruptEnabled_of_gie (s : State) (h : s.gie = false) : s.interruptEnabled = false := by
  simp [State.interruptEnabled, h]

/-- Settles O32: each clause reads off what the step does to the wait flag. -/
theorem waitFlagRule : Obligations.WaitFlagRule := by
  intro s t h
  have ho := step_outcome s t h
  have hpass (hl : s.lpm = true) (hm : s.turn.move = .foreground) := ho.passes (.inl ⟨hm, hl⟩)
  cases ho.sleepOutcome with
  | sleeps hm hl hw ht hg hc =>
    exact ⟨fun _ _ => ⟨hm, (State.inArmWindow_iff s).mp hw, hg⟩, fun hn => by simp [hl] at hn, by simp [hc, hl], hpass⟩
  | handles hm he ht hg hc =>
    refine ⟨fun hl hn => by simp [ht, hl] at hn, fun hl hn => ⟨hm, ?_⟩, hc, hpass⟩
    have hw : s.wakesSleeper = true := by simpa [ht, hl] using hn
    rcases (State.wakesSleeper_iff s).mp hw with ⟨-, e | e⟩ | e
    · exact .inr (.inl e)
    · exact .inl e
    · exact .inr (.inr e)
  | keeps hs ht hg hc =>
    exact ⟨fun hl hn => by simp [ht, hl] at hn, fun hl hn => by simp [ht, hl] at hn,
      by rw [hc, ht, if_neg (by simp)], hpass⟩

/-- Settles O33: `gie` is touched by a `*_SLEEP` alone, which sets `lpm` with it. -/
theorem interruptEnableRule : Obligations.InterruptEnableRule := by
  intro s t h
  have ho := step_outcome s t h
  have hpass (hg : s.gie = false) (hm : s.turn.move = .interrupt) :=
    ho.passes (.inr ⟨hm, State.interruptEnabled_of_gie s hg⟩)
  cases ho.sleepOutcome with
  | sleeps hm hl hw ht hg hc =>
    exact ⟨fun _ => hg, fun _ _ => ⟨ht, hm, (State.inArmWindow_iff s).mp hw⟩, fun _ _ _ => ⟨ht, hg⟩, hpass⟩
  | handles hm he ht hg hc =>
    exact ⟨fun hs => hg.trans hs, fun hs hn => by simp [hg, hs] at hn, fun hf => by simp [hm] at hf, hpass⟩
  | keeps hs ht hg hc =>
    refine ⟨fun hs => hg.trans hs, fun hs hn => by simp [hg, hs] at hn, fun hm hl hf => ?_, hpass⟩
    have hw := (State.inArmWindow_iff s).mpr hf
    simp [hs hm hl] at hw

end Sys2Proof.Machine
end

section
/-! Proofs: reset, the arming of a transaction, and the wake-up that a run without `A_NO_EARLY_EVENT` can lose (R17,
R36, R190, R194, R197). -/

namespace Sys2Proof.Machine

/-! ### Reset -/

theorem EventBits.has_of_all_clear (c : EventCode) :
    EventBits.has ⟨false, false, false, false, false, false⟩ c = false := by
  revert c
  decide

/-- Settles O41: every field named has the value of R36 by the definition of the reset state. -/
theorem resetValues : Obligations.ResetValues := by
  intro p src
  refine ⟨rfl, rfl, rfl, rfl, rfl, rfl, rfl, rfl, rfl, fun c => ?_, rfl, rfl, rfl, rfl, rfl, rfl⟩
  exact ⟨EventBits.has_of_all_clear c, EventBits.has_of_all_clear c⟩

/-- After reset the block stands at `IDLE`, on a free bus. -/
theorem State.free_resetWith (p : Params) (src : List Byte) : (State.resetWith p src).free :=
  ⟨⟨rfl, rfl, rfl, rfl⟩, rfl, rfl⟩

theorem State.protocol_resetWith (p : Params) (src : List Byte) (hp : p.nackPolicy = .ignore) :
    (State.resetWith p src).protocol :=
  ⟨hp, rfl, .inl ⟨rfl, rfl, .inl (State.free_resetWith p src)⟩⟩

/-- Settles O42: the invariants hold of the state after reset, and `Ignore` is the policy as built. -/
theorem resetInvariants : Obligations.ResetInvariants := by
  intro p src
  exact ⟨rfl, by simp [State.resetWith], by simp [State.resetWith], State.protocol_resetWith p src,
    State.protocol_resetWith _ _ rfl⟩

/-! ### The start request -/

/-- A micro-operation requests a start only at an `*_ARM` (R112, R122, R127). -/
theorem exec_position_txstt (s v : State) (hi : s.fg ≠ Fg.idle) (h : exec (decodePosition s.fg) s = .next v) :
    s.atArm ∨ v.ctl.txstt = s.ctl.txstt := by
  rcases exec_position_cases s v hi h with ⟨e, rfl⟩ | ⟨e, rfl⟩ | ⟨e, rfl⟩ | ⟨e, rfl⟩ | ⟨e, rfl⟩ | ⟨e, rfl⟩ | ⟨e, rfl⟩ |
    ⟨e, -, rfl⟩ | ⟨e, -, rfl⟩ | ⟨e, rfl⟩ | ⟨e, rfl⟩ | ⟨e, rfl⟩ | ⟨e, rfl⟩ | ⟨e, rfl⟩ <;>
    simp [State.atArm, e]

/-- Only an `*_ARM` sets `CTL.txstt`. -/
theorem StepOutcome.atArm_of_txstt {s t : State} (h : StepOutcome s t) (hs : s.ctl.txstt = false)
    (ht : t.ctl.txstt = true) : s.atArm := by
  cases h with
  | write w ws a d ha hc hd e => simp [e, hs] at ht
  | read w ws a ha hc hd e => simp [e, hs] at ht
  | position u hm hl hi hu e =>
    rcases exec_position_txstt _ u (by simpa using hi) hu with ha | hk
    · exact (State.atArm_takeTurn s).mp ha
    · simp [e, hk, hs] at ht
  | boot hm hr hf hl e => simp [e, hs] at ht
  | event u hm he hu e =>
    obtain ⟨-, -, -, -, -, hk⟩ := exec_event_keeps _ u hu
    simp [e, hk, hs] at ht
  | periph p hm e =>
    obtain ⟨-, -, -, -, -, -, -, -, hk⟩ := State.periphStep_keeps s.takeTurn p
    have hk' := hk (by simpa [e] using ht)
    simp [hs] at hk'
  | host w hm e => simp [e, hs] at ht
  | pass hp e => simp [e, hs] at ht

/-- Settles O49: a start is requested at an `*_ARM`, and there the bus is free. -/
theorem armOnlyOnFreeBus : Obligations.ArmOnlyOnFreeBus := by
  intro s t hp h hs ht
  obtain ⟨⟨⟨hr, hx, hb, -⟩, hbus, hstp⟩, -⟩ := State.inPhase_atArm s hp.2.2 ((step_outcome s t h).atArm_of_txstt hs ht)
  exact ⟨hstp, hbus, hr, hx, hb⟩

/-! ### The lost wake-up -/

/-- The completing event of the transaction that a `*_SLEEP` is to wait for selects its completing tier (R103). -/
theorem State.completesOwn_of_completing (s : State) (hp : s.protocol) (hw : s.inArmWindow = true)
    (he : (s.iv = Ev.txEmpty ∧ s.txRemaining = 0) ∨ (s.iv = Ev.rxFull ∧ s.rxRemaining = 1)) :
    s.completesOwn = true := by
  obtain ⟨hig, hiv, hin⟩ := hp
  refine (State.completesOwn_iff_of_inArmWindow s hw).mpr ⟨State.aborted_of_ignore s hig, ?_⟩
  rcases he with ⟨e, hn⟩ | ⟨e, hn⟩
  · obtain ⟨-, hf⟩ := State.inPhase_of_txEmpty s hin ((State.data_flag_of_iv s hiv).2 e)
    refine .inl ⟨?_, (decodeEvent_eq_txDone_iff _ _ _).mpr ⟨e, hn⟩⟩
    rcases hf with ⟨-, ⟨k, -⟩ | ⟨k, -⟩⟩ | ⟨-, -, ⟨k, -⟩ | ⟨k, -⟩⟩ <;> rw [k] <;> decide
  · obtain ⟨-, -, hf⟩ := State.inPhase_of_rxFull s hin ((State.data_flag_of_iv s hiv).1 e)
    refine .inr ⟨?_, (decodeEvent_eq_rxLast_iff _ _ _).mpr ⟨e, by simp [hn]⟩⟩
    rcases hf with ⟨k, -⟩ | ⟨k, -⟩
    · exact k
    · simp [State.inArmWindow, k] at hw

/-- A data event reported is a cause pending (R33). -/
theorem State.causePending_of_iv (s : State) (h : s.ivConsistent = true) (hn : s.iv ≠ Ev.none) :
    s.causePending = true := by
  rcases State.iv_of_ivConsistent s h with hp | ⟨e, -⟩
  · exact (State.causePending_iff s).mpr ⟨_, hp⟩
  · exact absurd e hn

theorem State.interruptEnabled_of_causePending (s : State) (hg : s.gie = true) (hc : s.causePending = true)
    (hn : s.par.noEarlyEvent = false) : s.interruptEnabled = true := by
  simp [State.interruptEnabled, hg, hc, hn]

/-- On a free bus no step of R138 to R142 is enabled. -/
theorem State.periphBusy_of_free (s : State) (h : s.free) : s.periphBusy = false := by
  obtain ⟨⟨-, -, -, hs⟩, hbus, -⟩ := h
  simp [State.periphBusy, State.periphEnabled, hs, hbus]

/-- The pending stop of a released bus completes, and frees it (R140, R142). -/
theorem State.periphStep_of_releasing (s : State) (p : PeriphStep) (h : s.releasing) (hr : s.ctl.swrst = false)
    (hp : (s.bus = .txActive ∧ p = .txStop) ∨ (s.bus = .rxStopping ∧ p = .rxStop)) :
    s.periphStep p = s.completeStop ∧ s.completeStop.free := by
  obtain ⟨⟨hrx, htx, hb, hs⟩, -, hstp⟩ := h
  refine ⟨?_, by simp [State.free, State.quiet, hrx, htx, hb, hs]⟩
  rcases hp with ⟨hbus, rfl⟩ | ⟨hbus, rfl⟩ <;>
    simp [State.periphStep, State.periphEnabled, State.periphDo, hr, hbus, hstp, hb]

/-- At a `*_SLEEP` the micro-operation suspends the foreground (R113, R123, R128). -/
theorem exec_position_of_inArmWindow (s : State) (h : s.inArmWindow = true) :
    ∃ x, exec (decodePosition s.fg) s = .next (s.sleep.goto x) := by
  rcases (State.inArmWindow_iff s).mp h with e | e | e <;> rw [e]
  · exact ⟨Fg.wSettle, rfl⟩
  · exact ⟨Fg.r1Settle, rfl⟩
  · exact ⟨Fg.r2Settle, rfl⟩

/-- The step of a `*_SLEEP` (R113, R123, R128). -/
theorem step_of_inArmWindow (s : State) (hp : s.protocol) (hw : s.inArmWindow = true)
    (hm : s.turn.move = .foreground) :
    ∃ x i, step s = .next (((s.takeTurn.sleep.goto x).noteWake i).latchIv s.turn.ivPick) := by
  obtain ⟨hfg, hst⟩ := State.not_reserved_of_protocol s hp
  obtain ⟨hl, -⟩ := State.inPhase_inArmWindow s hp.2.2 hw
  have hf := (State.inArmWindow_iff s).mp hw
  have hi : s.fg ≠ Fg.idle := by rcases hf with e | e | e <;> rw [e] <;> decide
  have hh : s.returnHeld = false := by rcases hf with e | e | e <;> simp [State.returnHeld, State.returnsRead, e]
  have hrun := (stepRunsTheSelectedOperation s hfg hst).1 hm hl hi hh
  obtain ⟨x, hx⟩ := exec_position_of_inArmWindow s.takeTurn (by simpa using hw)
  refine ⟨x, decodePosition s.fg, hrun.trans ?_⟩
  rw [show s.fg = s.takeTurn.fg by simp, hx, andThen_next]

/-- Suspended on a free bus with no cause pending, the machine hangs (R206). -/
theorem State.hung_of_free (s : State) (hl : s.lpm = true) (hc : s.causePending = false) (hf : s.free) :
    s.hung = true := by
  simp [State.hung, State.interruptEnabled, hl, hc, State.periphBusy_of_free s hf]

/-- Settles O51: the completing tier before the `*_SLEEP` leaves no wake behind; its stop completes; and the `*_SLEEP`
then suspends the foreground on a free bus. -/
theorem lostWakeUp : Obligations.LostWakeUp := by
  refine ⟨fun s hp hn hw ha hg hm he => ?_, fun s hp hw hrel hrst hm => ?_, fun s hp hw hfree hc hm => ?_⟩
  · obtain ⟨t, h⟩ := step_next_of_protocol s hp
    have ht := protocol_step s t h hp
    have hl := (State.inPhase_inArmWindow s hp.2.2 hw).1
    have hown := State.completesOwn_of_completing s hp hw he
    have hiv : s.iv ≠ Ev.none := by rcases he with ⟨e, -⟩ | ⟨e, -⟩ <;> rw [e] <;> decide
    have hint := State.interruptEnabled_of_causePending s hg (State.causePending_of_iv s hp.2.1 hiv) hn
    have hfg : t.fg = s.fg := (foregroundOrder s t h).1 (by simp [hm])
    obtain ⟨hlt, hgo⟩ := State.inPhase_inArmWindow t ht.2.2 ((State.inArmWindow_congr s t hfg).trans hw)
    have hdone : ¬ t.goesOn := by
      rw [step_inArmWindow_goesOn s t h hp hw (by simp [hm])]
      exact fun k => by simp [k.2 hm hint] at hown
    have hwakes := (waitFlagRule s t h).2.2.1
    exact ⟨t, h, ht, hfg, hgo.resolve_left hdone, hlt, by simpa [hl] using hwakes,
      ((step_armedOutcome s t h).armed_end_awake ha hl).mpr ⟨hm, hint, hown⟩⟩
  · obtain ⟨hfg, hst⟩ := State.not_reserved_of_protocol s hp
    have hrel' : s.takeTurn.releasing := by simpa [State.releasing, State.quiet] using hrel
    obtain ⟨p, hmp, hpb⟩ : ∃ p, s.turn.move = .peripheral p ∧
        ((s.bus = .txActive ∧ p = .txStop) ∨ (s.bus = .rxStopping ∧ p = .rxStop)) := by
      rcases hm with ⟨hb, hm⟩ | ⟨hb, hm⟩
      · exact ⟨_, hm, .inl ⟨hb, rfl⟩⟩
      · exact ⟨_, hm, .inr ⟨hb, rfl⟩⟩
    obtain ⟨hstop, hfree⟩ :=
      State.periphStep_of_releasing s.takeTurn p hrel' (by simpa using hrst) (by simpa using hpb)
    have h := (stepWithoutOperation.2 s hfg hst).1 p hmp
    rw [hstop] at h
    exact ⟨_, h, protocol_step s _ h hp, by simp, hfree, by simp⟩
  · obtain ⟨x, i, h⟩ := step_of_inArmWindow s hp hw hm
    refine ⟨_, h, State.hung_of_free _ (by simp) ?_ ?_, by simp⟩
    · simpa [State.causePending, State.pending] using hc
    · simpa [State.free, State.quiet] using hfree

end Sys2Proof.Machine
end

section
/-! Proofs: the commands of a run are answered one by one, and its end is an end (R38, R193, R206). -/

namespace Sys2Proof.Machine

/-! ### The count of commands -/

/-- A turn that writes neither `fg` nor a port, and is not the host's, counts what it counted. -/
theorem State.commandCount_congr (s t : State) (h h' : List CmdWord) (hfg : t.fg = s.fg) (hk : s.samePorts t)
    (hh : h' = h) : t.commandCount h' = s.commandCount h := by
  obtain ⟨hc, hr⟩ := hk
  simp [State.commandCount, hfg, hc, hr, hh]

/-- The count is conserved, whoever moves. -/
theorem StepOutcome.commandCount_eq {s t : State} (ho : StepOutcome s t) (h h' : List CmdWord)
    (hp : presents s.turn.move h h') : t.commandCount h' = s.commandCount h := by
  have hresp := ho.responses_cases
  cases ho with
  | write w ws a d ha hc hd ht =>
    obtain ⟨hm, hf, -⟩ := ha
    rw [presents_of_not_host _ _ _ (by simp [hm])] at hp
    simp [State.commandCount, ht, hf, hc, hp]
    omega
  | read w ws a ha hc hd ht =>
    obtain ⟨hm, hf, -⟩ := ha
    rw [presents_of_not_host _ _ _ (by simp [hm])] at hp
    simp [State.commandCount, ht, hf, hc, hp]
    omega
  | position u hm hl hi hu ht =>
    rw [presents_of_not_host _ _ _ (by simp [hm])] at hp
    obtain ⟨-, hk, -⟩ := exec_position_keeps _ u (by simpa using hi) hu
    have hc : t.cmds = s.cmds := by simpa [ht] using hk
    rcases hresp with ⟨hr, hn⟩ | ⟨-, hf, hr⟩ | ⟨-, hf, hr⟩
    · have hf : t.fg ≠ Fg.idle := fun e => hn ⟨hi, e⟩
      simp only [State.commandCount, hp, hc, hr, hf, hi, if_false]
    · simp only [State.commandCount, hp, hc, hr, hf, hi, if_true, if_false, List.length_append, List.length_singleton]
      omega
    · simp only [State.commandCount, hp, hc, hr, hf, hi, if_true, if_false, List.length_append, List.length_singleton]
      omega
  | boot hm hr hf hl ht =>
    rw [presents_of_not_host _ _ _ (by simp [hm])] at hp
    exact State.commandCount_congr s t h h' (by simp [ht]) (by simp [ht, State.samePorts]) hp
  | event u hm he hu ht =>
    rw [presents_of_not_host _ _ _ (by simp [hm])] at hp
    obtain ⟨-, hk, -, hf, -⟩ := exec_event_keeps _ u hu
    exact State.commandCount_congr s t h h' (by simp [ht, hf]) (by simpa [ht, State.samePorts] using hk) hp
  | periph p hm ht =>
    rw [presents_of_not_host _ _ _ (by simp [hm])] at hp
    obtain ⟨-, hk, -, hf, -⟩ := State.periphStep_keeps s.takeTurn p
    exact State.commandCount_congr s t h h' (by simp [ht, hf]) (by simpa [ht, State.samePorts] using hk) hp
  | host w hm ht =>
    rw [hm] at hp
    obtain rfl : h = w :: h' := hp
    simp [State.commandCount, ht]
    omega
  | pass hm ht =>
    have hn : ∀ w, s.turn.move ≠ .host w := by rcases hm with ⟨e, -⟩ | ⟨e, -⟩ <;> simp [e]
    exact State.commandCount_congr s t h h' (by simp [ht]) (by simp [ht, State.samePorts])
      ((presents_of_not_host _ _ _ hn).mp hp)

/-! ### The end of a run -/

/-- What holds of every state of a run of `ws` under `Ignore`: the protocol, and the count. -/
theorem InRun.invariant {p : Params} {src : List Byte} {ws h : List CmdWord} {s : State}
    (hp : p.nackPolicy = .ignore) (hr : InRun p src ws s h) : s.protocol ∧ s.commandCount h = ws.length := by
  induction hr with
  | start ts n =>
    have hiv : (State.resetWith p src).bootConfig.ivConsistent = true := by
      simp [State.ivConsistent, State.causePending, State.pending, EventBits.both, EventBits.codes, State.resetWith]
    refine ⟨⟨hp, hiv, .inl ⟨rfl, rfl, .inl (State.free_resetWith p src)⟩⟩, ?_⟩
    simp [State.commandCount, State.resetWith]
  | extend s t h h' _ hst hpr ih =>
    obtain ⟨ihp, ihc⟩ := ih
    exact ⟨protocol_step s t hst ihp, ((step_outcome s t hst).commandCount_eq h h' hpr).trans ihc⟩

/-- The block rests: configured, at `IDLE` on a free bus, with no word at the command port. -/
def State.resting (s : State) : Prop := s.ctl.swrst = false ∧ s.fg = Fg.idle ∧ s.cmds = [] ∧ s.free

/-- A pending stop always has its step (R140, R142). -/
theorem State.periphBusy_of_releasing (s : State) (h : s.releasing) (hr : s.ctl.swrst = false) :
    s.periphBusy = true := by
  obtain ⟨⟨-, -, hb, -⟩, hbus | hbus, hp⟩ := h <;> simp [State.periphBusy, State.periphEnabled, hr, hb, hbus, hp]

/-- Under the protocol the bus is free at the end of a run, since a pending stop has a step enabled (R206). -/
theorem State.ended_iff_of_protocol (s : State) (h : List CmdWord) (hp : s.protocol) :
    s.ended h = true ↔ s.resting ∧ h = [] := by
  obtain ⟨-, -, hin⟩ := hp
  constructor
  · intro he
    obtain ⟨hr, hf, hc, hh, -, hb⟩ : s.ctl.swrst = false ∧ s.fg = Fg.idle ∧ s.cmds = [] ∧ h = [] ∧ s.lpm = false ∧
        s.periphBusy = false := by
      simpa [State.ended, and_assoc] using he
    refine ⟨⟨hr, hf, hc, ?_⟩, hh⟩
    rcases (State.inPhase_idle s hin hf).2 with hfree | hrel
    · exact hfree
    · simp [State.periphBusy_of_releasing s hrel hr] at hb
  · rintro ⟨⟨hr, hf, hc, hfree⟩, rfl⟩
    have hl := (State.inPhase_idle s hin hf).1
    simp [State.ended, hr, hf, hc, hl, State.periphBusy_of_free s hfree]

/-- While the block rests no data event is reported, so a handler rule changes nothing that resting reads. -/
theorem exec_event_resting (s v : State) (hp : s.protocol) (hs : s.resting) (h : exec s.selectedEvent s = .next v) :
    v.resting := by
  obtain ⟨hr, hf, hc, hfree⟩ := hs
  obtain ⟨⟨hrx, htx, -⟩, -⟩ := id hfree
  obtain ⟨-, -, -, -, -, e6, e7, e8, e9, -, e11, e12⟩ := exec_event_samePhase s v hp.1
    (fun e => by simp [(State.data_flag_of_iv s hp.2.1).1 e] at hrx)
    (fun e => by simp [(State.data_flag_of_iv s hp.2.1).2 e] at htx) h
  obtain ⟨⟨-, hrst, -⟩, ⟨hcmds, -⟩, -, hfg, -⟩ := exec_event_keeps s v h
  refine ⟨hrst.trans hr, hfg.trans hf, hcmds.trans hc, ?_⟩
  simpa [State.free, State.quiet, e6, e7, e8, e9, e11, e12] using hfree

theorem State.resting_congr (s t : State) (hc : t.ctl = s.ctl) (hf : t.fg = s.fg) (hk : t.cmds = s.cmds)
    (hi : t.ifg = s.ifg) (hb : t.bus = s.bus) (ht : t.txbufFull = s.txbufFull) : t.resting ↔ s.resting := by
  simp only [State.resting, State.free, State.quiet, hc, hf, hk, hi, hb, ht]

@[simp] theorem State.resting_takeTurn (s : State) : s.takeTurn.resting ↔ s.resting :=
  State.resting_congr s _ (by simp) (by simp) (by simp) (by simp) (by simp) (by simp)

@[simp] theorem State.resting_latchIv (s : State) (n : Nat) : (s.latchIv n).resting ↔ s.resting := .rfl

@[simp] theorem State.resting_noteWake (s : State) (i : Instr) : (s.noteWake i).resting ↔ s.resting :=
  State.resting_congr s _ (by simp) (by simp) (by simp) (by simp) (by simp) (by simp)

/-- Only a word that the host presents ends the rest. -/
theorem StepOutcome.resting {s t : State} (ho : StepOutcome s t) (hp : s.protocol) (hs : s.resting)
    (hn : ∀ w, s.turn.move ≠ .host w) : t.resting := by
  have hs' : s.takeTurn.resting := by simpa using hs
  obtain ⟨hr, hf, hc, hfree⟩ := id hs'
  cases ho with
  | write w ws a d ha hw hd ht => simp [hw] at hc
  | read w ws a ha hw hd ht => simp [hw] at hc
  | position u hm hl hi hu ht => exact absurd (by simpa using hf) hi
  | boot hm hb hi hl ht => simp [hb] at hr
  | event u hm he hu ht => simpa [ht] using exec_event_resting _ u (State.protocol_takeTurn s hp) hs' hu
  | periph p hm ht =>
    obtain ⟨⟨-, hrst, -⟩, ⟨hcmds, -⟩, -, hfg, -⟩ := State.periphStep_keeps s.takeTurn p
    subst ht
    exact ⟨hrst.trans hr, hfg.trans hf, hcmds.trans hc, State.free_periphStep _ p hfree⟩
  | host w hm ht => exact absurd hm (hn w)
  | pass hm ht => simpa [ht] using hs

/-- Settles O60: the count is conserved by every step, and at its end all of it is answers. -/
theorem commandsAnsweredOnce : Obligations.CommandsAnsweredOnce := by
  refine ⟨fun s t h h' hst hp => (step_outcome s t hst).commandCount_eq h h' hp, ?_⟩
  intro p src ws s h hig hrun he
  obtain ⟨hp, hcount⟩ := hrun.invariant hig
  obtain ⟨hs, rfl⟩ := (State.ended_iff_of_protocol s h hp).mp he
  obtain ⟨-, hf, hc, -, hbus, hstp⟩ := id hs
  refine ⟨rfl, by simpa [State.commandCount, hf, hc] using hcount, hstp, hbus, fun t h' hst hpr => ?_⟩
  have hn : ∀ w, s.turn.move ≠ .host w := by
    intro w e
    rw [e] at hpr
    cases hpr
  refine (State.ended_iff_of_protocol t h' (protocol_step s t hst hp)).mpr
    ⟨(step_outcome s t hst).resting hp hs hn, (presents_of_not_host _ _ _ hn).mp hpr⟩

end Sys2Proof.Machine
end

section
/-! Proofs: the receive destination. The one store writes one cell and keeps the canonical form (R40, R41, R43). -/

namespace Sys2Proof.Machine

/-- A cell to store to is one of the three (R41). -/
theorem State.cursor_lt (s : State) (h : s.rxCursor ≠ 3) : s.rxCursor.toNat < Config.rxCells := by
  simp only [Config.rxCells]
  bv_omega

/-- A tier that stores at `rx_cursor` keeps the canonical form. -/
theorem State.wf_of_stores (s t : State) (v : Byte) (hw : Memory.wf s.rxBuf = true) (hc : s.rxCursor ≠ 3)
    (h : t.rxBuf = Memory.write s.rxBuf s.rxCursor.toNat v) : Memory.wf t.rxBuf = true := by
  rw [h]
  exact Memory.wf_write _ _ _ hw (State.cursor_lt s hc)

/-- And writes the cell named, and no other. -/
theorem State.cell_of_stores (s t : State) (v : Byte) (hw : Memory.wf s.rxBuf = true)
    (h : t.rxBuf = Memory.write s.rxBuf s.rxCursor.toNat v) (a : Nat) :
    t.cell a = if s.rxCursor.toNat = a then v else s.cell a := by
  rw [State.cell, h]
  exact Memory.read_write _ _ _ _ hw

/-- What a receive tier that goes on does to the receive destination (R91 to R93, R166). -/
theorem exec_rx_rxBuf (i : Instr) (s t : State) (hi : i = .rxCont ∨ i = .rxPenult ∨ i = .rxLast)
    (h : exec i s = .next t) :
    (s.aborted = true ∧ t.rxBuf = s.rxBuf) ∨
    (s.aborted = false ∧ s.rxCursor ≠ 3 ∧ t.rxBuf = Memory.write s.rxBuf s.rxCursor.toNat s.rxbuf) := by
  cases ha : s.aborted with
  | true =>
    left
    rcases hi with rfl | rfl | rfl
    · cases (execRxCont_aborted s ha).symm.trans h
      simp
    · cases (execRxPenult_aborted s ha).symm.trans h
      simp
    · cases (execRxLast_aborted s ha).symm.trans h
      simp
  | false =>
    right
    have hc : s.rxCursor ≠ 3 := by
      intro k
      obtain ⟨h1, h2, h3⟩ := execRx_overrun s ha k
      rcases hi with rfl | rfl | rfl
      · cases h1.symm.trans h
      · cases h2.symm.trans h
      · cases h3.symm.trans h
    refine ⟨rfl, hc, ?_⟩
    rcases hi with rfl | rfl | rfl
    · cases (execRxCont_stores s ha hc).symm.trans h
      simp
    · cases (execRxPenult_stores s ha hc).symm.trans h
      simp
    · cases (execRxLast_stores s ha hc).symm.trans h
      simp

/-- Settles O15: the destination after a tier is the one before it, or that with one cell written. -/
theorem receiveStoreFrame : Obligations.ReceiveStoreFrame := by
  intro i s t hi hw h
  rcases exec_rx_rxBuf i s t hi h with ⟨ha, hb⟩ | ⟨ha, hc, hb⟩
  · refine ⟨hb ▸ hw, fun _ a => by simp [State.cell, hb], fun hn => by simp [ha] at hn⟩
  · have hcell := State.cell_of_stores s t _ hw hb
    refine ⟨State.wf_of_stores s t _ hw hc hb, fun hn => by simp [ha] at hn, fun _ => ⟨State.cursor_lt s hc, ?_, ?_⟩⟩
    · rw [hcell, if_pos rfl]
    · exact fun a hne => by rw [hcell, if_neg hne.symm]

/-- Settles O46: no step writes the destination but by the one store, at a cursor below 3 (O30). -/
theorem memoryFormKept : Obligations.MemoryFormKept := by
  intro s t hw h
  obtain ⟨-, -, -, -, -, -, hb | ⟨-, -, hc, hb⟩⟩ := transactionStateWriters s t h
  · exact hb ▸ hw
  · exact State.wf_of_stores s t _ hw hc hb

end Sys2Proof.Machine
end

section
/-! Proofs: a call in progress, whoever moves. What a call asks of each agent is `CallRules`; that a step then keeps the
call, or ends it, is proved once for `WRITE` and `READ` (R3, R46). -/

namespace Sys2Proof.Machine

variable {a d : Byte} {log : List BusItem} {src : List Byte} {w : Nat} {rs : List Response}

/-- `t` agrees with `s` in every field that `State.writeCall` and `State.readCall` read, but for the status vector. -/
def State.sameCall (s t : State) : Prop :=
  s.samePhase t ∧ s.sameOperands t ∧ t.par = s.par ∧ t.responses = s.responses ∧ t.wakeCount = s.wakeCount ∧
  t.txRemaining = s.txRemaining ∧ t.rxBuf = s.rxBuf ∧ t.txbuf = s.txbuf ∧ t.rxbuf = s.rxbuf ∧ t.rxSrc = s.rxSrc ∧
  t.txLog = s.txLog

theorem State.writeCall_congr (s t : State) (h : s.sameCall t) (hiv : t.ivConsistent = true)
    (hs : s.writeCall a d log w rs) : t.writeCall a d log w rs := by
  obtain ⟨⟨e1, e2, e3, -, -, e6, e7, e8, e9, e10, e11, e12⟩, ⟨-, f2, f3⟩, g1, g2, g3, g4, -, g6, -, -, g9⟩ := h
  simp only [State.writeCall, State.logSettles, State.free, State.releasing, State.quiet, State.writeSending,
    State.writeSent, hiv, e1, e2, e3, e6, e7, e8, e9, e10, e11, e12, f2, f3, g1, g2, g3, g4, g6, g9] at hs ⊢
  obtain ⟨h1, -, h2⟩ := hs
  exact ⟨h1, trivial, h2⟩

theorem State.writeReturned_congr (s t : State) (h : s.sameCall t) (hs : s.writeReturned a d log w rs) :
    t.writeReturned a d log w rs := by
  obtain ⟨⟨e1, e2, -, -, -, e6, e7, e8, e9, -, e11, e12⟩, -, -, g2, g3, g4, -, -, -, -, g9⟩ := h
  simp only [State.writeReturned, State.quiet, State.writeSent, e1, e2, e6, e7, e8, e9, e11, e12, g2, g3, g4,
    g9] at hs ⊢
  exact hs

theorem State.readCall_congr (s t : State) (h : s.sameCall t) (hiv : t.ivConsistent = true)
    (hs : s.readCall a log src w rs) : t.readCall a log src w rs := by
  obtain ⟨⟨e1, e2, e3, e4, e5, e6, e7, e8, e9, e10, e11, e12⟩, ⟨-, -, f3⟩, g1, g2, g3, g4, g5, g6, g7, g8, g9⟩ := h
  simp only [State.readCall, State.logSettles, State.free, State.releasing, State.quiet, State.setupSending,
    State.setupSent, State.readReceiving, State.readReceived, State.cell, hiv, e1, e2, e3, e4, e5, e6, e7, e8, e9, e10,
    e11, e12, f3, g1, g2, g3, g4, g5, g6, g7, g8, g9] at hs ⊢
  obtain ⟨h1, -, h2⟩ := hs
  exact ⟨h1, trivial, h2⟩

theorem State.readReturned_congr (s t : State) (h : s.sameCall t) (hs : s.readReturned a log src w rs) :
    t.readReturned a log src w rs := by
  obtain ⟨⟨e1, e2, -, e4, e5, e6, e7, e8, e9, e10, e11, e12⟩, -, -, g2, g3, g4, g5, -, -, g8, g9⟩ := h
  simp only [State.readReturned, State.quiet, State.readReceived, State.cell, e1, e2, e4, e5, e6, e7, e8, e9, e10, e11,
    e12, g2, g3, g4, g5, g8, g9] at hs ⊢
  exact hs

theorem State.sameCall_takeTurn (s : State) : s.sameCall s.takeTurn := by
  simp [State.sameCall, State.samePhase, State.sameOperands]

/-- The end of a turn changes nothing that a call reads but the status vector. -/
theorem State.sameCall_noteWake (s : State) (i : Instr) (n : Nat) :
    (s.latchIv n).sameCall ((s.noteWake i).latchIv n) := by
  simp [State.sameCall, State.samePhase, State.sameOperands]

/-- What an invariant `C` of a call asks of each agent; `R` holds of the state in which the call has returned. -/
structure CallRules (C R : State → Prop) : Prop where
  protocol : ∀ s, C s → s.protocol
  busy : ∀ s, C s → s.fg ≠ Fg.idle
  congr : ∀ s t, s.sameCall t → t.ivConsistent = true → C s → C t
  congr_returned : ∀ s t, s.sameCall t → R s → R t
  position : ∀ s v n, C s → s.lpm = false → exec (decodePosition s.fg) s = .next v → C (v.latchIv n) ∨ R (v.latchIv n)
  transmit : ∀ s v n, C s → s.ifg.txEmpty = true → s.transmitTier v → C (v.latchIv n)
  receive : ∀ s v n, C s → s.ifg.rxFull = true → s.receiveTier v → C (v.latchIv n)
  periph : ∀ s p n, C s → C ((s.periphStep p).latchIv n)

/-- Under `Ignore` a handler rule is a data tier, or changes nothing that a call reads (R97 to R101). -/
theorem exec_event_tier_or_sameCall (s v : State) (hp : s.par.nackPolicy = .ignore)
    (h : exec s.selectedEvent s = .next v) :
    (s.iv = Ev.rxFull ∧ s.receiveTier v) ∨ (s.iv = Ev.txEmpty ∧ s.transmitTier v) ∨ s.sameCall v := by
  have ha := State.aborted_of_ignore s hp
  have hk := State.surfacesError_of_ignore s hp
  have hack (e : OtherEvent) : s.sameCall (s.ackOther e) := by
    simp [State.sameCall, State.samePhase, State.sameOperands]
  rcases exec_event_cases s v h with ⟨-, k, -⟩ | ⟨e, -, -, hv⟩ | ⟨-, k, -⟩ | ⟨e, -, hv⟩ | ⟨-, ⟨k, -⟩ | ⟨-, rfl⟩⟩ |
    ⟨-, ⟨k, -⟩ | ⟨-, rfl⟩⟩ | ⟨-, rfl⟩ | ⟨-, rfl⟩ | ⟨-, rfl⟩
  · simp [ha] at k
  · exact .inl ⟨e, hv⟩
  · simp [ha] at k
  · exact .inr (.inl ⟨e, hv⟩)
  · simp [hk] at k
  · exact .inr (.inr (hack _))
  · simp [hk] at k
  · exact .inr (.inr (hack _))
  · exact .inr (.inr (hack _))
  · exact .inr (.inr (hack _))
  · exact .inr (.inr (by simp [State.sameCall, State.samePhase, State.sameOperands]))

/-- A handler rule keeps the call. -/
theorem CallRules.event {C R : State → Prop} (hC : CallRules C R) (s v : State) (n : Nat) (hs : C s)
    (h : exec s.selectedEvent s = .next v) : C (v.latchIv n) := by
  obtain ⟨hig, hiv, -⟩ := hC.protocol s hs
  obtain ⟨hrx, htx⟩ := State.data_flag_of_iv s hiv
  rcases exec_event_tier_or_sameCall s v hig h with ⟨e, hv⟩ | ⟨e, hv⟩ | hv
  · exact hC.receive s v n hs (hrx e) hv
  · exact hC.transmit s v n hs (htx e) hv
  · exact hC.congr s _ hv (State.ivConsistent_latchIv v n) hs

/-- The step keeps the call or ends it, whoever moves. -/
theorem CallRules.step {C R : State → Prop} (hC : CallRules C R) (s : State) (hs : C s) :
    ∃ t, step s = .next t ∧ (C t ∨ R t) := by
  have hp := hC.protocol s hs
  obtain ⟨t, h⟩ := step_next_of_protocol s hp
  refine ⟨t, h, ?_⟩
  have hbusy := hC.busy s hs
  have hs' : C s.takeTurn := by
    obtain ⟨-, hiv, -⟩ := State.protocol_takeTurn s hp
    exact hC.congr s _ (State.sameCall_takeTurn s) hiv hs
  cases step_outcome s t h with
  | write w ws a d ha hc hd ht =>
    obtain ⟨-, hf, -⟩ := ha
    exact absurd hf hbusy
  | read w ws a ha hc hd ht =>
    obtain ⟨-, hf, -⟩ := ha
    exact absurd hf hbusy
  | position u hm hl hi hu ht =>
    subst ht
    have hk := State.sameCall_noteWake u (decodePosition s.takeTurn.fg) s.turn.ivPick
    exact (hC.position _ u s.turn.ivPick hs' (by simpa using hl) hu).imp
      (hC.congr _ _ hk (State.ivConsistent_latchIv _ _)) (hC.congr_returned _ _ hk)
  | boot hm hr hf hl ht => exact absurd hf hbusy
  | event u hm he hu ht =>
    subst ht
    exact .inl (hC.congr _ _ (State.sameCall_noteWake u _ _) (State.ivConsistent_latchIv _ _)
      (hC.event _ u s.turn.ivPick hs' hu))
  | periph p hm ht =>
    subst ht
    exact .inl (hC.periph _ p _ hs')
  | host w hm ht =>
    subst ht
    refine .inl (hC.congr s.takeTurn _ ?_ (State.ivConsistent_latchIv _ _) hs')
    simp [State.sameCall, State.samePhase, State.sameOperands]
  | pass hm ht =>
    subst ht
    refine .inl (hC.congr s.takeTurn _ ?_ (State.ivConsistent_latchIv _ _) hs')
    simp [State.sameCall, State.samePhase, State.sameOperands]

/-! ### What both calls share -/

theorem State.released_of_logSettles (s : State) (h : s.logSettles log) : s.released :=
  h.imp And.left And.left

@[simp] theorem State.free_latchIv (s : State) (n : Nat) : (s.latchIv n).free ↔ s.free := .rfl

@[simp] theorem State.logSettles_frame (s : State) :
    (∀ x, (s.goto x).logSettles log ↔ s.logSettles log) ∧ ∀ n, (s.latchIv n).logSettles log ↔ s.logSettles log :=
  ⟨fun _ => .rfl, fun _ => .rfl⟩

/-- With no stop pending the log has settled, on a free bus. -/
theorem State.free_of_logSettles (s : State) (h : s.logSettles log) (hp : s.ctl.txstp = false) :
    s.free ∧ s.txLog = log := by
  rcases h with h | ⟨⟨-, -, k⟩, -⟩
  · exact h
  · simp [hp] at k

/-- Between two transactions the peripheral completes the pending stop, or puts nothing on the bus (R140, R142). -/
theorem State.periphStep_of_released (s : State) (p : PeriphStep) (h : s.released) :
    s.periphStep p = s ∨ (s.releasing ∧ s.periphStep p = s.completeStop) ∨ ∃ e, s.periphStep p = s.raiseOther e := by
  have hq : s.quiet := h.elim And.left And.left
  obtain ⟨-, -, hb, hs⟩ := hq
  rcases State.periphStep_cases s p with e | ⟨k, -⟩ | ⟨-, k, -⟩ | ⟨k, -⟩ | ⟨k, e⟩ | e
  · exact .inl e
  · simp [hs] at k
  · simp [hb] at k
  · simp [State.released, State.free, State.releasing, k] at h
  · rcases h with ⟨-, hbus, -⟩ | h
    · simp [hbus] at k
    · exact .inr (.inl ⟨h, e⟩)
  · exact .inr (.inr e)

/-- In a transmit the peripheral generates the start or takes the byte that waits (R138, R139). -/
theorem State.periphStep_of_transmitting (s : State) (p : PeriphStep) (h : s.transmitting) :
    s.periphStep p = s ∨ (s.ctl.txstt = true ∧ s.periphStep p = s.pStart) ∨
    (s.txbufFull = true ∧ s.periphStep p = s.pTxTake) ∨ ∃ e, s.periphStep p = s.raiseOther e := by
  rcases State.periphStep_cases s p with e | ⟨k, -, -, e⟩ | ⟨-, k, e⟩ | ⟨k, -⟩ | ⟨⟨-, k, -⟩ | k, -⟩ | e
  · exact .inl e
  · exact .inr (.inl ⟨k, e⟩)
  · exact .inr (.inr (.inl ⟨k, e⟩))
  · simp [State.transmitting, k] at h
  · simp [State.transmitting, k] at h
  · simp [State.transmitting, k] at h
  · exact .inr (.inr (.inr e))

theorem State.logSettles_periphStep (s : State) (p : PeriphStep) (h : s.logSettles log) :
    (s.periphStep p).logSettles log := by
  have hrel := State.released_of_logSettles s h
  rcases State.periphStep_of_released s p hrel with e | ⟨⟨-, -, hp⟩, e⟩ | ⟨x, e⟩ <;> rw [e]
  · exact h
  · simp [State.logSettles, State.free, State.releasing, State.quiet, hp] at h ⊢
    simp [h]
  · simpa [State.logSettles, State.free, State.releasing, State.quiet] using h

/-- On a free bus the peripheral puts nothing on the log. -/
theorem State.txLog_periphStep_of_free (s : State) (p : PeriphStep) (h : s.free) :
    (s.periphStep p).txLog = s.txLog := by
  obtain ⟨-, hlog⟩ | ⟨⟨-, hbus, -⟩, -⟩ := State.logSettles_periphStep (log := s.txLog) s p (.inl ⟨h, rfl⟩)
  · exact hlog
  · obtain ⟨-, k, -⟩ := State.free_periphStep s p h
    simp [k] at hbus

/-- And the bus stays free. -/
theorem State.free_log_periphStep (s : State) (p : PeriphStep) (h : s.free ∧ s.txLog = log) :
    (s.periphStep p).free ∧ (s.periphStep p).txLog = log :=
  ⟨State.free_periphStep s p h.1, (State.txLog_periphStep_of_free s p h.1).trans h.2⟩

/-- `v` waits as `s` does. -/
def State.sameWait (s v : State) : Prop := v.lpm = s.lpm ∧ v.wakeCount = s.wakeCount

/-- `v` is what a `wake()` makes of how `s` waits (R172). -/
def State.wokenFrom (s v : State) : Prop :=
  v.lpm = false ∧ v.wakeCount = if s.lpm then s.wakeCount + 1 else s.wakeCount

/-- A transmit tier leaves all but the transmit itself and the wait flag alone (R174). -/
theorem State.transmitTier_keeps (s v : State) (h : s.transmitTier v) :
    v.par = s.par ∧ v.fg = s.fg ∧ s.sameOperands v ∧ v.responses = s.responses ∧ v.rxCursor = s.rxCursor ∧
    v.rxBuf = s.rxBuf ∧ v.rxSrc = s.rxSrc := by
  rcases h with ⟨-, rfl⟩ | ⟨-, rfl⟩ | ⟨-, rfl⟩ <;> simp [State.sameOperands]

/-- A receive in progress has a cell to store to (R102). -/
theorem State.cursor_of_receiving (s : State) (h : s.receiving) : s.rxCursor ≠ 3 := by
  obtain ⟨-, -, -, ⟨-, -, -, -, -, hc⟩ | ⟨-, -, -, -, hc⟩ | ⟨-, -, -, -, hc⟩ | ⟨-, -, -, -, -, hc⟩ |
    ⟨-, -, -, -, -, hc⟩ | ⟨-, -, -, -, -, hc⟩⟩ := h <;> simp [hc]

/-- A receive tier leaves all but the receive itself and the wait flag alone (R174). -/
theorem State.receiveTier_keeps (s v : State) (h : s.receiveTier v) :
    v.par = s.par ∧ v.fg = s.fg ∧ s.sameOperands v ∧ v.responses = s.responses ∧
    v.rxBuf = Memory.write s.rxBuf s.rxCursor.toNat s.rxbuf := by
  rcases h with ⟨-, rfl⟩ | ⟨-, rfl⟩ | ⟨-, rfl⟩ <;> simp [State.sameOperands]

/-- The store of a receive in progress keeps the canonical form. -/
theorem State.wf_of_receiveTier (s v : State) (h : s.receiving) (hm : Memory.wf s.rxBuf = true)
    (hv : s.receiveTier v) : Memory.wf v.rxBuf = true := by
  obtain ⟨-, -, -, -, hbuf⟩ := State.receiveTier_keeps s v hv
  exact State.wf_of_stores s v _ hm (State.cursor_of_receiving s h) hbuf

end Sys2Proof.Machine
end

section
/-! Proofs: one `WRITE` from its acceptance to its return (R42, R102, R103, R110, R115, R116). -/

namespace Sys2Proof.Machine

section

variable {a d : Byte} {log : List BusItem} {w : Nat} {rs : List Response}

/-! ### Where the call stands, as the protocol sees it -/

theorem State.transmitting_of_writeSending (s : State) (h : s.writeSending a d log) : s.transmitting := by
  obtain ⟨hr, hp, htr, ⟨hs, hb, ht, hf, -⟩ | ⟨hs, hb, ht, hf, -⟩ | ⟨hs, hb, ht, hf, -⟩⟩ := h <;>
    simp [State.transmitting, hr, hp, htr, hs, hb, ht, hf]

theorem State.released_of_writeSent (s : State) (h : s.writeSent a d log) : s.released := by
  obtain ⟨-, hq, ⟨hb, hp, -⟩ | ⟨hb, hp, -⟩⟩ := h
  · exact .inr ⟨hq, .inl hb, hp⟩
  · exact .inl ⟨hq, hb, hp⟩

theorem State.protocol_of_writeCall (s : State) (h : s.writeCall a d log w rs) : s.protocol := by
  obtain ⟨hig, hiv, hd, -, -, -, h⟩ := h
  have hgo (k : s.writeSending a d log ∨ s.writeSent a d log) : s.transmitting ∨ s.released :=
    k.imp (State.transmitting_of_writeSending s) (State.released_of_writeSent s)
  refine ⟨hig, hiv, ?_⟩
  rcases h with ⟨hf, hl, -, -, k⟩ | ⟨hf, hl, -, -, k, -⟩ | ⟨hf, hl, -, k⟩ | ⟨hf, hl, -, k⟩ | ⟨hf, hl, -, k⟩
  · simp [State.inPhase, hf, hl, hd, State.released_of_logSettles s k]
  · simp [State.inPhase, hf, hl, hd, k]
  · simp [State.inPhase, hf, hl, hd, hgo k]
  · simp [State.inPhase, hf, hl, hd, hgo k]
  · simp [State.inPhase, hf, hl, hd, State.released_of_writeSent s k]

theorem State.busy_of_writeCall (s : State) (h : s.writeCall a d log w rs) : s.fg ≠ Fg.idle := by
  obtain ⟨-, -, -, -, -, -, ⟨e, -⟩ | ⟨e, -⟩ | ⟨e, -⟩ | ⟨e, -⟩ | ⟨e, -⟩⟩ := h <;> rw [e] <;> decide

/-! ### The foreground -/

@[simp] theorem State.writeSending_frame (s : State) :
    (∀ x, (s.goto x).writeSending a d log ↔ s.writeSending a d log) ∧
    (∀ n, (s.latchIv n).writeSending a d log ↔ s.writeSending a d log) ∧
    (s.sleep.writeSending a d log ↔ s.writeSending a d log) :=
  ⟨fun _ => .rfl, fun _ => .rfl, .rfl⟩

@[simp] theorem State.writeSent_frame (s : State) :
    (∀ x, (s.goto x).writeSent a d log ↔ s.writeSent a d log) ∧
    (∀ n, (s.latchIv n).writeSent a d log ↔ s.writeSent a d log) ∧
    (s.sleep.writeSent a d log ↔ s.writeSent a d log) :=
  ⟨fun _ => .rfl, fun _ => .rfl, .rfl⟩

/-- `W_ARM` starts the transmit of the call (R112). -/
theorem State.writeSending_arm (s : State) (h : s.free) (hn : s.txRemaining = 2) (hlog : s.txLog = log) :
    s.setTr.issueStart.writeSending a d log := by
  obtain ⟨⟨hr, ht, hb, -⟩, hbus, hp⟩ := h
  simp [State.writeSending, hr, ht, hb, hbus, hp, hn, hlog]

/-- Each micro-operation of `WRITE` leads to the next position, and the last one returns (R111 to R114). -/
theorem State.writeCall_position (s v : State) (n : Nat) (h : s.writeCall a d log w rs) (hl : s.lpm = false)
    (hv : exec (decodePosition s.fg) s = .next v) :
    (v.latchIv n).writeCall a d log w rs ∨ (v.latchIv n).writeReturned a d log w rs := by
  obtain ⟨hig, -, hd, ha, hb, hr, h⟩ := h
  rcases h with ⟨e, -, hw, hn, k⟩ | ⟨e, -, hw, hn, hfree, hlog⟩ | ⟨e, -, hw, k⟩ | ⟨-, hs, -⟩ | ⟨e, -, hw, k⟩
  · cases (State.poll_eq s Fg.wPoll Fg.wArm).symm.trans (e ▸ hv)
    cases hp : s.ctl.txstp with
    | true => simp [State.writeCall, State.ivConsistent_latchIv, *]
    | false =>
      have hk := State.free_of_logSettles s k hp
      simp [State.writeCall, State.ivConsistent_latchIv, *]
  · rw [e] at hv
    cases hv
    have hk := State.writeSending_arm (a := a) (d := d) s hfree hn hlog
    simp [State.writeCall, State.ivConsistent_latchIv, *]
  · rw [e] at hv
    cases hv
    simp [State.writeCall, State.ivConsistent_latchIv, *]
  · simp [hl] at hs
  · rw [e] at hv
    cases hv
    have hst : s.respStatus = none := by simp [State.respStatus, State.surface_of_ignore s hig]
    exact .inr ⟨rfl, hl, hw, by simp [hr, hst], k⟩

/-! ### The handler -/

/-- No receive-ready event is pending in a `WRITE`. -/
theorem State.rxFull_of_writeCall (s : State) (h : s.writeCall a d log w rs) : s.ifg.rxFull = false := by
  obtain ⟨-, -, hin⟩ := State.protocol_of_writeCall s h
  obtain ⟨-, -, hd, -⟩ := h
  cases hr : s.ifg.rxFull with
  | false => rfl
  | true =>
    obtain ⟨-, k, -⟩ := State.inPhase_of_rxFull s hin hr
    simp [hd] at k

/-- Where a transmit-ready event can be pending: the transmit of the call, between its `*_SLEEP` and its wake. -/
theorem State.writeCall_of_txEmpty (s : State) (h : s.writeCall a d log w rs) (ht : s.ifg.txEmpty = true) :
    s.writeSending a d log ∧ s.awaits Fg.wSleep Fg.wSettle ∧ s.wakeCount = w := by
  obtain ⟨-, -, -, -, -, -, h⟩ := h
  simp [State.logSettles, State.free, State.releasing, State.quiet, State.writeSent, ht] at h
  simp only [State.awaits]
  tauto

/-- `TX_ADDR` and `TX_DATA` send the next byte of the call; `TX_DONE` issues its stop and wakes (R94 to R96). -/
theorem State.writeSending_tier (s v : State) (h : s.writeSending a d log) (ht : s.ifg.txEmpty = true)
    (ha : s.addrByte = a) (hd : s.dataByte = d) (hv : s.transmitTier v) :
    (v.writeSending a d log ∧ s.sameWait v) ∨ (v.writeSent a d log ∧ s.wokenFrom v) := by
  obtain ⟨hr, hp, htr, hs, hbus, hf⟩ := State.transmitting_of_txEmpty s (State.transmitting_of_writeSending s h) ht
  have hk : (s.txRemaining = 2 ∧ s.txLog = log ++ [BusItem.startW]) ∨
      (s.txRemaining = 1 ∧ s.txLog = log ++ [BusItem.startW, BusItem.byte a]) ∨
      (s.txRemaining = 0 ∧ s.txLog = log ++ [BusItem.startW, BusItem.byte a, BusItem.byte d]) := by
    simpa [State.writeSending, hr, hp, htr, hs, hbus, hf, ht] using h
  rcases hk with ⟨hn, hlog⟩ | ⟨hn, hlog⟩ | ⟨hn, hlog⟩ <;> rcases hv with ⟨k, rfl⟩ | ⟨k, rfl⟩ | ⟨k, rfl⟩ <;>
    simp [hn] at k
  · exact .inl (by simp [State.writeSending, State.sameWait, hr, hp, htr, hs, hbus, hn, hlog, ha])
  · exact .inl (by simp [State.writeSending, State.sameWait, hr, hp, htr, hs, hbus, hlog, hd])
  · exact .inr (by simp [State.writeSent, State.wokenFrom, State.quiet, hr, hs, hbus, hf, hn, hlog])

theorem State.writeCall_transmit (s v : State) (n : Nat) (h : s.writeCall a d log w rs) (ht : s.ifg.txEmpty = true)
    (hv : s.transmitTier v) : (v.latchIv n).writeCall a d log w rs := by
  obtain ⟨hsend, hwait, hw⟩ := State.writeCall_of_txEmpty s h ht
  obtain ⟨hig, -, hd, ha, hb, hr, -⟩ := h
  obtain ⟨kig, kfg, ⟨kd, ka, kb⟩, kr, -⟩ := State.transmitTier_keeps s v hv
  have hgo := State.writeSending_tier s v hsend ht ha hb hv
  rcases hwait with ⟨e, hl⟩ | ⟨e, hl⟩ <;> rcases hgo with ⟨k, kl, kw⟩ | ⟨k, kl, kw⟩ <;>
    simp [State.writeCall, State.ivConsistent_latchIv, *]

/-! ### The peripheral -/

/-- `P_START` puts the start on the log, `P_TX_TAKE` the byte that waits (R138, R139). -/
theorem State.writeSending_periphStep (s : State) (p : PeriphStep) (h : s.writeSending a d log) :
    (s.periphStep p).writeSending a d log := by
  have htr := State.transmitting_of_writeSending s h
  rcases State.periphStep_of_transmitting s p htr with e | ⟨k, e⟩ | ⟨k, e⟩ | ⟨x, e⟩ <;> rw [e]
  · exact h
  · simp_all [State.writeSending]
  · simp [State.writeSending, k] at h
    obtain ⟨hr, hp, htr, hs, hb, -, k | k⟩ := h <;> simp [State.writeSending, hr, hp, htr, hs, hb, k]
  · simpa [State.writeSending] using h

/-- Once the stop has been issued, its completion is all that the bus has still to do (R140). -/
theorem State.writeSent_periphStep (s : State) (p : PeriphStep) (h : s.writeSent a d log) :
    (s.periphStep p).writeSent a d log := by
  rcases State.periphStep_of_released s p (State.released_of_writeSent s h) with e | ⟨⟨-, -, hp⟩, e⟩ | ⟨x, e⟩ <;> rw [e]
  · exact h
  · simp [State.writeSent, State.quiet, hp] at h ⊢
    simp [h]
  · simpa [State.writeSent, State.quiet] using h

theorem State.writeCall_periphStep (s : State) (p : PeriphStep) (n : Nat) (h : s.writeCall a d log w rs) :
    ((s.periphStep p).latchIv n).writeCall a d log w rs := by
  obtain ⟨hig, -, hd, ha, hb, hr, h⟩ := h
  obtain ⟨⟨kig, -⟩, ⟨-, kr⟩, ⟨kd, kn, -, ka, kb, -⟩, kf, kl, -, kw, -⟩ := State.periphStep_keeps s p
  have hset := State.logSettles_periphStep (log := log) s p
  have hfree := State.free_log_periphStep (log := log) s p
  have hsend := State.writeSending_periphStep (a := a) (d := d) (log := log) s p
  have hsent := State.writeSent_periphStep (a := a) (d := d) (log := log) s p
  refine ⟨kig ▸ hig, State.ivConsistent_latchIv _ n, kd.trans hd, ka.trans ha, kb.trans hb, kr.trans hr, ?_⟩
  simp only [State.latchIv_fields, State.free_latchIv, State.logSettles_frame, State.writeSending_frame,
    State.writeSent_frame, kf, kl, kw, kn]
  revert h
  gcongr

end

/-! ### The statement -/

theorem callRules_write (a d : Byte) (log : List BusItem) (w : Nat) (rs : List Response) :
    CallRules (State.writeCall · a d log w rs) (State.writeReturned · a d log w rs) where
  protocol := State.protocol_of_writeCall
  busy := State.busy_of_writeCall
  congr := State.writeCall_congr
  congr_returned := State.writeReturned_congr
  position := State.writeCall_position
  transmit := State.writeCall_transmit
  receive s _ _ h hr := by simp [State.rxFull_of_writeCall s h] at hr
  periph := State.writeCall_periphStep

/-- Settles O55: the rules of a call, with what each agent does to a `WRITE`. -/
theorem writeGuarantees : Obligations.WriteGuarantees :=
  fun s a d log w rs h => (callRules_write a d log w rs).step s h

end Sys2Proof.Machine
end

section
/-! Proofs: one `READ` from its acceptance to its return (R43, R102, R103, R120, R130, R141). -/

namespace Sys2Proof.Machine

section

variable {a : Byte} {log : List BusItem} {src : List Byte} {w : Nat} {rs : List Response}

/-! ### Where the call stands, as the protocol sees it -/

theorem State.transmitting_of_setupSending (s : State) (h : s.setupSending a log) : s.transmitting := by
  obtain ⟨hr, hp, htr, ⟨hs, hb, ht, hf, -⟩ | ⟨hs, hb, ht, hf, -⟩ | ⟨hs, hb, ht, hf, -⟩⟩ := h <;>
    simp [State.transmitting, hr, hp, htr, hs, hb, ht, hf]

theorem State.setupDone_of_setupSent (s : State) (h : s.setupSent a log) : s.setupDone := by
  obtain ⟨-, htr, hq, ⟨hb, hp, -⟩ | ⟨hb, hp, -⟩⟩ := h
  · exact ⟨.inr ⟨hq, .inl hb, hp⟩, htr⟩
  · exact ⟨.inl ⟨hq, hb, hp⟩, htr⟩

theorem State.receiving_of_readReceiving (s : State) (h : s.readReceiving log src) : s.receiving := by
  obtain ⟨ht, hf, htr, -, h⟩ := h
  refine ⟨ht, hf, htr, ?_⟩
  rcases h with ⟨hs, hb, hp, hr, hn, hc, -⟩ | ⟨hs, hb, hp, hn, hc, -⟩ | ⟨hs, hb, hp, hn, hc, -⟩ |
    ⟨hs, hb, hp, hr, hn, hc, -⟩ | ⟨hs, hb, hp, hr, hn, hc, -⟩ | ⟨hs, hb, hp, hr, hn, hc, -⟩ <;> simp [*]

theorem State.receiveDone_of_readReceived (s : State) (h : s.readReceived log src) : s.receiveDone := by
  obtain ⟨hn, hc, -, htr, hq, -, ⟨hb, hp, -⟩ | ⟨hb, hp, -⟩⟩ := h
  · exact ⟨.inr ⟨hq, .inr hb, hp⟩, htr, hn, hc⟩
  · exact ⟨.inl ⟨hq, hb, hp⟩, htr, hn, hc⟩

/-- With no stop pending, phase 1 has left a free bus, and its stop is on the log. -/
theorem State.free_of_setupSent (s : State) (h : s.setupSent a log) (hp : s.ctl.txstp = false) :
    s.free ∧ s.txLog = log ++ [BusItem.startW, BusItem.byte a, BusItem.stop] := by
  obtain ⟨-, -, hq, ⟨-, k, -⟩ | ⟨hb, -, hlog⟩⟩ := h
  · simp [hp] at k
  · exact ⟨⟨hq, hb, hp⟩, hlog⟩

theorem State.protocol_of_readCall (s : State) (h : s.readCall a log src w rs) : s.protocol := by
  obtain ⟨hig, hiv, hd, -, -, -, h⟩ := h
  have hset (k : s.setupSending a log ∨ s.setupSent a log) : s.transmitting ∨ s.setupDone :=
    k.imp (State.transmitting_of_setupSending s) (State.setupDone_of_setupSent s)
  have hrec {l : List BusItem} (k : s.readReceiving l src ∨ s.readReceived l src) : s.receiving ∨ s.receiveDone :=
    k.imp (State.receiving_of_readReceiving s) (State.receiveDone_of_readReceived s)
  refine ⟨hig, hiv, ?_⟩
  rcases h with ⟨hf, hl, -, hc, -, -, k⟩ | ⟨hf, hl, -, hc, -, -, k, -⟩ | ⟨hf, hl, -, hc, -, k⟩ | ⟨hf, hl, -, hc, -, k⟩ |
    ⟨hf, hl, -, hc, -, k⟩ | ⟨hf, hl, -, hc, -, k⟩ | ⟨hf, hl, -, hc, -, hn, k⟩ | ⟨hf, hl, -, hc, -, hn, hp, k⟩ |
    ⟨hf, hl, -, k⟩ | ⟨hf, hl, -, k⟩ | ⟨hf, hl, -, k⟩
  · simp [State.inPhase, hf, hl, hd, hc, State.released_of_logSettles s k]
  · simp [State.inPhase, hf, hl, hd, hc, k]
  · simp [State.inPhase, hf, hl, hd, hc, hset k]
  · simp [State.inPhase, hf, hl, hd, hc, hset k]
  · simp [State.inPhase, hf, hl, hd, hc, State.setupDone_of_setupSent s k]
  · simp [State.inPhase, hf, hl, hd, hc, State.setupDone_of_setupSent s k]
  · simp [State.inPhase, hf, hl, hd, hc, hn, State.setupDone_of_setupSent s k]
  · obtain ⟨hfree, -⟩ := State.free_of_setupSent s k hp
    obtain ⟨-, htr⟩ := State.setupDone_of_setupSent s k
    simp [State.inPhase, hf, hl, hd, hc, hn, hfree, htr]
  · simp [State.inPhase, hf, hl, hd, hrec k]
  · simp [State.inPhase, hf, hl, hd, hrec k]
  · simp [State.inPhase, hf, hl, hd, State.receiveDone_of_readReceived s k]

theorem State.busy_of_readCall (s : State) (h : s.readCall a log src w rs) : s.fg ≠ Fg.idle := by
  obtain ⟨-, -, -, -, -, -, ⟨e, -⟩ | ⟨e, -⟩ | ⟨e, -⟩ | ⟨e, -⟩ | ⟨e, -⟩ | ⟨e, -⟩ | ⟨e, -⟩ | ⟨e, -⟩ | ⟨e, -⟩ | ⟨e, -⟩ |
    ⟨e, -⟩⟩ := h <;> rw [e] <;> decide

/-! ### The foreground -/

@[simp] theorem State.setupSending_frame (s : State) :
    (∀ x, (s.goto x).setupSending a log ↔ s.setupSending a log) ∧
    (∀ n, (s.latchIv n).setupSending a log ↔ s.setupSending a log) ∧
    (s.sleep.setupSending a log ↔ s.setupSending a log) :=
  ⟨fun _ => .rfl, fun _ => .rfl, .rfl⟩

@[simp] theorem State.setupSent_frame (s : State) :
    (∀ x, (s.goto x).setupSent a log ↔ s.setupSent a log) ∧
    (∀ n, (s.latchIv n).setupSent a log ↔ s.setupSent a log) ∧ (s.sleep.setupSent a log ↔ s.setupSent a log) ∧
    ∀ n, (s.setRxRemaining n).setupSent a log ↔ s.setupSent a log :=
  ⟨fun _ => .rfl, fun _ => .rfl, .rfl, fun _ => .rfl⟩

@[simp] theorem State.readReceiving_frame (s : State) :
    (∀ x, (s.goto x).readReceiving log src ↔ s.readReceiving log src) ∧
    (∀ n, (s.latchIv n).readReceiving log src ↔ s.readReceiving log src) ∧
    (s.sleep.readReceiving log src ↔ s.readReceiving log src) :=
  ⟨fun _ => .rfl, fun _ => .rfl, .rfl⟩

@[simp] theorem State.readReceived_frame (s : State) :
    (∀ x, (s.goto x).readReceived log src ↔ s.readReceived log src) ∧
    (∀ n, (s.latchIv n).readReceived log src ↔ s.readReceived log src) ∧
    (s.sleep.readReceived log src ↔ s.readReceived log src) :=
  ⟨fun _ => .rfl, fun _ => .rfl, .rfl⟩

/-- `R1_ARM` starts the transmit of phase 1 (R122). -/
theorem State.setupSending_arm (s : State) (h : s.free) (hn : s.txRemaining = 1) (hlog : s.txLog = log) :
    s.setTr.issueStart.setupSending a log := by
  obtain ⟨⟨hr, ht, hb, -⟩, hbus, hp⟩ := h
  simp [State.setupSending, hr, ht, hb, hbus, hp, hn, hlog]

/-- `R2_ARM` starts the receive of phase 2 (R127). -/
theorem State.readReceiving_arm (s : State) (h : s.setupSent a log) (hp : s.ctl.txstp = false)
    (hn : s.rxRemaining = 3) (hc : s.rxCursor = 0) (hsrc : s.rxSrc = src) :
    s.issueStart.readReceiving (log ++ [BusItem.startW, BusItem.byte a, BusItem.stop]) src := by
  obtain ⟨⟨⟨hr, ht, hb, -⟩, hbus, -⟩, hlog⟩ := State.free_of_setupSent s h hp
  obtain ⟨htx, htr, -⟩ := h
  simp [State.readReceiving, hr, ht, hb, hbus, hp, htr, htx, hn, hc, hlog, hsrc]

/-- Each micro-operation of `READ` leads to the next position, and the last one returns (R82, R121 to R129). -/
theorem State.readCall_position (s v : State) (n : Nat) (h : s.readCall a log src w rs) (hl : s.lpm = false)
    (hv : exec (decodePosition s.fg) s = .next v) :
    (v.latchIv n).readCall a log src w rs ∨ (v.latchIv n).readReturned a log src w rs := by
  obtain ⟨hig, -, hd, hb, hr, hm, h⟩ := h
  rcases h with ⟨e, -, hw, hc, hsrc, hn, k⟩ | ⟨e, -, hw, hc, hsrc, hn, hfree, hlog⟩ | ⟨e, -, hw, hc, hsrc, k⟩ |
    ⟨-, hs, -⟩ | ⟨e, -, hw, hc, hsrc, k⟩ | ⟨e, -, hw, hc, hsrc, k⟩ | ⟨e, -, hw, hc, hsrc, hn, k⟩ |
    ⟨e, -, hw, hc, hsrc, hn, hp, k⟩ | ⟨e, -, hw, k⟩ | ⟨-, hs, -⟩ | ⟨e, -, hw, k⟩
  · cases (State.poll_eq s Fg.r1Poll Fg.r1Arm).symm.trans (e ▸ hv)
    cases hp : s.ctl.txstp with
    | true => simp [State.readCall, State.ivConsistent_latchIv, *]
    | false =>
      have hk := State.free_of_logSettles s k hp
      simp [State.readCall, State.ivConsistent_latchIv, *]
  · rw [e] at hv
    cases hv
    have hk := State.setupSending_arm (a := a) s hfree hn hlog
    simp [State.readCall, State.ivConsistent_latchIv, *]
  · rw [e] at hv
    cases hv
    simp [State.readCall, State.ivConsistent_latchIv, *]
  · simp [hl] at hs
  · cases (execR1Settle_ok s (State.aborted_of_ignore s hig)).symm.trans (e ▸ hv)
    simp [State.readCall, State.ivConsistent_latchIv, *]
  · rw [e] at hv
    cases hv
    simp [State.readCall, State.ivConsistent_latchIv, *]
  · cases (State.poll_eq s Fg.r2Poll Fg.r2Arm).symm.trans (e ▸ hv)
    cases hp : s.ctl.txstp <;> simp [State.readCall, State.ivConsistent_latchIv, *]
  · rw [e] at hv
    cases hv
    have hk := State.readReceiving_arm s k hp hn hc hsrc
    simp [State.readCall, State.ivConsistent_latchIv, *]
  · rw [e] at hv
    cases hv
    simp [State.readCall, State.ivConsistent_latchIv, *]
  · simp [hl] at hs
  · rw [e] at hv
    cases hv
    have hst : s.respStatus = none := by simp [State.respStatus, State.surface_of_ignore s hig]
    obtain ⟨-, -, -, -, -, hbytes, -⟩ := id k
    exact .inr ⟨rfl, hl, hw, ⟨_, _, _, hbytes, by simp [hr, hst]⟩, k⟩

/-! ### The handler -/

/-- Where a transmit-ready event can be pending: the transmit of phase 1, between its `*_SLEEP` and its wake. -/
theorem State.readCall_of_txEmpty (s : State) (h : s.readCall a log src w rs) (ht : s.ifg.txEmpty = true) :
    s.setupSending a log ∧ s.awaits Fg.r1Sleep Fg.r1Settle ∧ s.wakeCount = w ∧ s.rxCursor = 0 ∧ s.rxSrc = src := by
  obtain ⟨-, -, -, -, -, -, h⟩ := h
  simp [State.logSettles, State.free, State.releasing, State.quiet, State.setupSent, State.readReceiving,
    State.readReceived, ht] at h
  simp only [State.awaits]
  tauto

/-- Where a receive-ready event can be pending, and where the slave is the next to move: the receive of phase 2, between
its `*_SLEEP` and its wake. -/
theorem State.readCall_of_rx (s : State) (h : s.readCall a log src w rs)
    (hr : s.ifg.rxFull = true ∨ s.bus = .rxActive) :
    s.readReceiving (log ++ [BusItem.startW, BusItem.byte a, BusItem.stop]) src ∧
    s.awaits Fg.r2Sleep Fg.r2Settle ∧ s.wakeCount = w + 1 := by
  obtain ⟨-, -, -, -, -, -, h⟩ := h
  simp only [State.awaits]
  rcases hr with hr | hr <;>
    simp [State.logSettles, State.free, State.releasing, State.quiet, State.setupSending, State.setupSent,
      State.readReceived, hr] at h <;>
    tauto

/-- `TX_DATA` sends the register address; `TX_DONE` issues the stop of phase 1, clears the direction and wakes (R95,
R96). -/
theorem State.setupSending_tier (s v : State) (h : s.setupSending a log) (ht : s.ifg.txEmpty = true)
    (hd : s.direction = .read) (hb : s.dataByte = a) (hv : s.transmitTier v) :
    (v.setupSending a log ∧ s.sameWait v) ∨ (v.setupSent a log ∧ s.wokenFrom v) := by
  obtain ⟨hr, hp, htr, hs, hbus, hf⟩ := State.transmitting_of_txEmpty s (State.transmitting_of_setupSending s h) ht
  have hk : (s.txRemaining = 1 ∧ s.txLog = log ++ [BusItem.startW]) ∨
      (s.txRemaining = 0 ∧ s.txLog = log ++ [BusItem.startW, BusItem.byte a]) := by
    simpa [State.setupSending, hr, hp, htr, hs, hbus, hf, ht] using h
  rcases hk with ⟨hn, hlog⟩ | ⟨hn, hlog⟩ <;> rcases hv with ⟨k, rfl⟩ | ⟨k, rfl⟩ | ⟨k, rfl⟩ <;> simp [hn] at k
  · exact .inl (by simp [State.setupSending, State.sameWait, hr, hp, htr, hs, hbus, hlog, hb])
  · exact .inr (by simp [State.setupSent, State.wokenFrom, State.quiet, hr, hs, hbus, hf, hn, hlog, hd])

theorem State.readCall_transmit (s v : State) (n : Nat) (h : s.readCall a log src w rs) (ht : s.ifg.txEmpty = true)
    (hv : s.transmitTier v) : (v.latchIv n).readCall a log src w rs := by
  obtain ⟨hsend, hwait, hw, hc, hsrc⟩ := State.readCall_of_txEmpty s h ht
  obtain ⟨hig, -, hd, hb, hr, hm, -⟩ := h
  obtain ⟨kig, kfg, ⟨kd, -, kb⟩, kr, kc, km, ksrc⟩ := State.transmitTier_keeps s v hv
  have hgo := State.setupSending_tier s v hsend ht hd hb hv
  rcases hwait with ⟨e, hl⟩ | ⟨e, hl⟩ <;> rcases hgo with ⟨k, kl, kw⟩ | ⟨k, kl, kw⟩ <;>
    simp [State.readCall, State.ivConsistent_latchIv, *]

/-- `RX_CONT` and `RX_PENULT` move the byte that has arrived into its cell, `RX_LAST` the last one, and wakes (R91 to
R93, R102). -/
theorem State.readReceiving_tier (s v : State) (h : s.readReceiving log src) (hr : s.ifg.rxFull = true)
    (hm : Memory.wf s.rxBuf = true) (hv : s.receiveTier v) :
    (v.readReceiving log src ∧ s.sameWait v) ∨ (v.readReceived log src ∧ s.wokenFrom v) := by
  obtain ⟨ht, hf, htr, htx, h⟩ := h
  simp [hr] at h
  rcases h with ⟨hs, hb, hp, hn, hc, hlog, hsrc⟩ | ⟨hs, hb, hp, hn, hc, hlog, hsrc⟩ |
    ⟨hs, hb, hp, hn, hc, hlog, hsrc⟩ | ⟨hs, hb, hp, hn, hc, hlog, hsrc⟩ <;>
    rcases hv with ⟨k, rfl⟩ | ⟨k, rfl⟩ | ⟨k, rfl⟩ <;> simp [hn] at k
  · exact .inl (by simp [State.readReceiving, State.sameWait, State.cell, Memory.read_write, *])
  · exact .inl (by simp [State.readReceiving, State.sameWait, State.cell, Memory.read_write, *])
  · exact .inr (by simp [State.readReceived, State.wokenFrom, State.quiet, State.cell, Memory.read_write, *])
  · exact .inr (by simp [State.readReceived, State.wokenFrom, State.quiet, State.cell, Memory.read_write, *])

theorem State.readCall_receive (s v : State) (n : Nat) (h : s.readCall a log src w rs) (hr : s.ifg.rxFull = true)
    (hv : s.receiveTier v) : (v.latchIv n).readCall a log src w rs := by
  obtain ⟨hrec, hwait, hw⟩ := State.readCall_of_rx s h (.inl hr)
  obtain ⟨hig, -, hd, hb, hresp, hm, -⟩ := h
  obtain ⟨kig, kfg, ⟨kd, -, kb⟩, kr, -⟩ := State.receiveTier_keeps s v hv
  have hm' := State.wf_of_receiveTier s v (State.receiving_of_readReceiving s hrec) hm hv
  have hgo := State.readReceiving_tier s v hrec hr hm hv
  rcases hwait with ⟨e, hl⟩ | ⟨e, hl⟩ <;> rcases hgo with ⟨k, kl, kw⟩ | ⟨k, kl, kw⟩ <;>
    simp [State.readCall, State.ivConsistent_latchIv, *]

/-! ### The peripheral -/

theorem State.setupSending_periphStep (s : State) (p : PeriphStep) (h : s.setupSending a log) :
    (s.periphStep p).setupSending a log := by
  have htr := State.transmitting_of_setupSending s h
  rcases State.periphStep_of_transmitting s p htr with e | ⟨k, e⟩ | ⟨k, e⟩ | ⟨x, e⟩ <;> rw [e]
  · exact h
  · simp_all [State.setupSending]
  · simp_all [State.setupSending]
  · simpa [State.setupSending] using h

theorem State.setupSent_periphStep (s : State) (p : PeriphStep) (h : s.setupSent a log) :
    (s.periphStep p).setupSent a log := by
  obtain ⟨hrel, -⟩ := State.setupDone_of_setupSent s h
  rcases State.periphStep_of_released s p hrel with e | ⟨⟨-, -, hp⟩, e⟩ | ⟨x, e⟩ <;> rw [e]
  · exact h
  · simp [State.setupSent, State.quiet, hp] at h ⊢
    simp [h]
  · simpa [State.setupSent, State.quiet] using h

/-- `P_RX_BYTE` moves the next byte of the slave into `RXBUF` (R141). -/
theorem State.readReceiving_periphStep (s : State) (p : PeriphStep) (h : s.readReceiving log src) :
    (s.periphStep p).readReceiving log src := by
  rcases State.periphStep_cases s p with e | ⟨h1, h2, h3, e⟩ | ⟨h1, h2, e⟩ | ⟨h1, h2, v, rest, hsrc, e⟩ |
    ⟨⟨h1, h2, h3⟩ | h1, e⟩ | ⟨x, e⟩
  · rwa [e]
  · rw [e]
    simp_all [State.readReceiving]
  · simp [State.readReceiving, h1] at h
  · rw [e]
    simp [State.readReceiving, h1, h2, hsrc] at h
    obtain ⟨ht, hb, htr, htx, h | h | h⟩ := h <;> simp [State.readReceiving, State.cell, *]
  · simp [State.readReceiving, h1] at h
  · rw [e]
    simp_all [State.readReceiving, State.cell]
  · rw [e]
    simpa [State.readReceiving, State.cell] using h

theorem State.readReceived_periphStep (s : State) (p : PeriphStep) (h : s.readReceived log src) :
    (s.periphStep p).readReceived log src := by
  obtain ⟨hrel, -⟩ := State.receiveDone_of_readReceived s h
  rcases State.periphStep_of_released s p hrel with e | ⟨⟨-, -, hp⟩, e⟩ | ⟨x, e⟩ <;> rw [e]
  · exact h
  · simp [State.readReceived, State.quiet, State.cell, hp] at h ⊢
    simp [h]
  · simpa [State.readReceived, State.quiet, State.cell] using h

/-- The slave supplies no byte outside a receive (R141). -/
theorem State.rxSrc_periphStep (s : State) (p : PeriphStep) (h : s.bus ≠ .rxActive) :
    (s.periphStep p).rxSrc = s.rxSrc := by
  rcases State.periphStep_cases s p with e | ⟨-, -, -, e⟩ | ⟨-, -, e⟩ | ⟨k, -⟩ | ⟨-, e⟩ | ⟨x, e⟩
  · rw [e]
  · simp [e]
  · simp [e]
  · exact absurd k h
  · simp [e]
  · simp [e]

/-- A free bus after phase 1 stays so until `R2_ARM`. -/
theorem State.setupSent_free_periphStep (s : State) (p : PeriphStep) (h : s.ctl.txstp = false ∧ s.setupSent a log) :
    (s.periphStep p).ctl.txstp = false ∧ (s.periphStep p).setupSent a log := by
  obtain ⟨hp, h⟩ := h
  obtain ⟨hfree, -⟩ := State.free_of_setupSent s h hp
  obtain ⟨-, -, hp'⟩ := State.free_periphStep s p hfree
  exact ⟨hp', State.setupSent_periphStep s p h⟩

theorem State.readCall_periphStep (s : State) (p : PeriphStep) (n : Nat) (h : s.readCall a log src w rs) :
    ((s.periphStep p).latchIv n).readCall a log src w rs := by
  have hrx := State.readCall_of_rx s h
  obtain ⟨hig, -, hd, hb, hr, hm, h⟩ := h
  obtain ⟨⟨kig, -⟩, ⟨-, kr⟩, ⟨kd, kn, kx, -, kb, kc, km⟩, kf, kl, -, kw, -⟩ := State.periphStep_keeps s p
  by_cases hbus : s.bus = .rxActive
  · obtain ⟨k, ⟨e, hl⟩ | ⟨e, hl⟩, hw⟩ := hrx (.inr hbus) <;>
      simp [State.readCall, State.ivConsistent_latchIv, State.readReceiving_periphStep s p k, *]
  · have hsrc := State.rxSrc_periphStep s p hbus
    have hset := State.logSettles_periphStep (log := log) s p
    have hfree := State.free_log_periphStep (log := log) s p
    have hsend := State.setupSending_periphStep (a := a) (log := log) s p
    have hsent := State.setupSent_periphStep (a := a) (log := log) s p
    have hsentf := State.setupSent_free_periphStep (a := a) (log := log) s p
    have hrec := State.readReceiving_periphStep (log := log ++ [.startW, .byte a, .stop]) (src := src) s p
    have hdone := State.readReceived_periphStep (log := log ++ [.startW, .byte a, .stop]) (src := src) s p
    refine ⟨kig ▸ hig, State.ivConsistent_latchIv _ n, kd.trans hd, kb.trans hb, kr.trans hr, km ▸ hm, ?_⟩
    simp only [State.latchIv_fields, State.free_latchIv, State.logSettles_frame, State.setupSending_frame,
      State.setupSent_frame, State.readReceiving_frame, State.readReceived_frame, kf, kl, kw, kc, kn, kx, hsrc]
    revert h
    gcongr

end

/-! ### The statement -/

theorem callRules_read (a : Byte) (log : List BusItem) (src : List Byte) (w : Nat) (rs : List Response) :
    CallRules (State.readCall · a log src w rs) (State.readReturned · a log src w rs) where
  protocol := State.protocol_of_readCall
  busy := State.busy_of_readCall
  congr := State.readCall_congr
  congr_returned := State.readReturned_congr
  position := State.readCall_position
  transmit := State.readCall_transmit
  receive := State.readCall_receive
  periph := State.readCall_periphStep

/-- Settles O58: the rules of a call, with what each agent does to a `READ`. -/
theorem readGuarantees : Obligations.ReadGuarantees :=
  fun s a log src w rs h => (callRules_read a log src w rs).step s h

end Sys2Proof.Machine
end

section
/-! Proofs: the decoder and the encoder, format by format (R61 to R67). -/

namespace Sys2Proof

/-! ### Format C -/

@[simp] theorem decodeCommand_write (a d : Byte) : decodeCommand (mkCmd 0 a d) = .write a d := by
  simp [decodeCommand]

@[simp] theorem decodeCommand_read (a d : Byte) : decodeCommand (mkCmd 1 a d) = .read a := by
  simp [decodeCommand]

/-- Every word is the word of its three fields, so no value is left over (R61). -/
theorem mkCmd_fields (w : CmdWord) : mkCmd (cmdOp w) (cmdA w) (cmdD w) = w := by
  ext i hi
  rw [← BitVec.getLsbD_eq_getElem hi, ← BitVec.getLsbD_eq_getElem hi, getLsbD_mkCmd]
  split_ifs with h8 h16
  · simp [cmdD, h8]
  · simp [cmdA, show i - 8 < 8 by omega, show 8 + (i - 8) = i by omega]
  · simp [cmdOp, show i - 16 < 1 by omega, show 16 + (i - 16) = i by omega]

/-- A `WRITE` word comes back whole; a `READ` word comes back with its low byte 0 (R61). -/
theorem encode_decodeCommand (w : CmdWord) :
    encode (decodeCommand w) = .command (if cmdOp w = 0 then w else mkCmd 1 (cmdA w) 0) := by
  by_cases ho : cmdOp w = 0
  · have hw : mkCmd 0 (cmdA w) (cmdD w) = w := ho ▸ mkCmd_fields w
    rw [decodeCommand, if_pos ho, if_pos ho]
    exact congrArg Code.command hw
  · rw [decodeCommand, if_neg ho, if_neg ho]
    rfl

/-- Settles O2: decoding reads the three fields of a word, and every word is made of its fields. -/
theorem commandWordFormat : Obligations.CommandWordFormat :=
  ⟨fun _ _ => ⟨rfl, rfl⟩,
    fun a d => ⟨decodeCommand_write a d, decodeCommand_read a d⟩,
    fun op a d => ⟨cmdOp_mkCmd op a d, cmdA_mkCmd op a d, cmdD_mkCmd op a d⟩,
    fun w => ⟨⟨_, _, _, (mkCmd_fields w).symm⟩, Machine.Instr.wf_decodeCommand w⟩⟩

/-! ### All formats -/

/-- The counters select among the operations of a data event only (R66). -/
theorem selectedBy_of_encode_ne_event (i : Instr) (tx rx : Counter) (h : ∀ c, encode i ≠ .event c) :
    i.selectedBy tx rx = true := by
  cases i
  case rxCont | rxPenult | rxLast | txAddr | txData | txDone => exact absurd rfl (h _)
  all_goals rfl

/-- What a code decodes to is selected by the counters it was read at (R66). -/
theorem selectedBy_decode (c : Code) (tx rx : Counter) : (decode c tx rx).selectedBy tx rx = true := by
  cases c with
  | command w => exact selectedBy_of_encode_ne_event _ tx rx (Machine.encode_decodeCommand_ne_event w)
  | event iv => exact selectedBy_decodeEvent iv tx rx
  | position fg =>
    refine selectedBy_of_encode_ne_event _ tx rx fun c e => ?_
    cases (Machine.encode_decodePosition fg).symm.trans e

/-- An operation comes back from its code, at the counters that select it (R61, R62, R63, R66). -/
theorem decode_encode (i : Instr) (tx rx : Counter) (h : i.selectedBy tx rx = true) :
    decode (encode i) tx rx = i := by
  cases i
  case write a d => exact decodeCommand_write a d
  case read a => exact decodeCommand_read a 0
  case rxCont => exact decodeEvent_rxCont tx rx (of_decide_eq_true h)
  case rxPenult => exact decodeEvent_rxPenult tx rx (of_decide_eq_true h)
  case rxLast => exact decodeEvent_rxLast tx rx (of_decide_eq_true h)
  case txAddr => exact decodeEvent_txAddr tx rx (of_decide_eq_true h)
  case txData => exact decodeEvent_txData tx rx (of_decide_eq_true h)
  case txDone => exact decodeEvent_txDone tx rx (of_decide_eq_true h)
  all_goals rfl

/-- Settles O5: each format's codes come back from what they decode to, and each operation from its code. -/
theorem decodeEncodeAgree : Obligations.DecodeEncodeAgree :=
  ⟨fun i tx rx _ h => decode_encode i tx rx h, selectedBy_decode, fun w _ _ => encode_decodeCommand w,
    encode_decodeEvent, fun fg _ _ => Machine.encode_decodePosition fg⟩

/-! ### Selection -/

/-- Settles O1: the decoder, evaluated on the words written out. -/
theorem decodeWords : Obligations.DecodeWords := by
  unfold Obligations.DecodeWords
  decide

/-- Settles O3: one equation for every code, and for every tier of the two data codes. -/
theorem eventSelection : Obligations.EventSelection := fun tx rx =>
  ⟨decodeEvent_rxCont tx rx, decodeEvent_rxPenult tx rx, decodeEvent_rxLast tx rx,
    decodeEvent_txAddr tx rx, decodeEvent_txData tx rx, decodeEvent_txDone tx rx,
    decodeEvent_arbLost tx rx, decodeEvent_nack tx rx, decodeEvent_start tx rx, decodeEvent_stop tx rx,
    decodeEvent_none tx rx, decodeEvent_reserved tx rx⟩

/-- Settles O4: the table of positions is finite, and a suspended foreground fetches nothing. -/
theorem positionSelection : Obligations.PositionSelection :=
  ⟨by decide, Machine.State.fetch_foreground_suspended⟩

end Sys2Proof
end

section
/-! Proofs: reserved codes stop the machine at once, and no step reaches one (R68, R180). -/

namespace Sys2Proof.Machine

/-! ### The stop at a reserved code -/

theorem fgReserved_eq_false_iff (x : FgCode) : fgReserved x = false ↔ x.toNat < 14 := by
  revert x
  decide

theorem fgReserved_cases (x : FgCode) (h : fgReserved x = true) : x = 14 ∨ x = 15 := by
  revert x
  decide

theorem State.statusReserved_iff (s : State) :
    s.statusReserved = true ↔ s.par.nackPolicy = .surface ∧ s.status = Status.reserved := by
  simp [State.statusReserved, State.surface]

/-- A reserved position stops every agent (R68 (b)). -/
theorem step_of_fgReserved (s : State) (h : fgReserved s.fg = true) :
    step s = .fault (.reservedEncoding s.fg.toNat) := by
  rw [step, if_pos h]
  rcases fgReserved_cases s.fg h with e | e <;> rw [e] <;> rfl

/-- A reserved `status` under `Surface` stops every agent too (R68 (c)). -/
theorem step_of_statusReserved (s : State) (hf : fgReserved s.fg = false) (hs : s.statusReserved = true) :
    step s = .fault (.reservedEncoding 3) := by
  obtain ⟨-, hst⟩ := (State.statusReserved_iff s).mp hs
  simp [step, hf, hs, hst]

/-- Settles O8: the step tests the reserved codes first; event code 7 and every command word have a meaning. -/
theorem reservedValues : Obligations.ReservedValues := by
  refine ⟨fun s tx rx => ⟨rfl, rfl⟩, fun s => ⟨rfl, rfl⟩, fun s hf => ?_, fun s hp hst h14 h15 => ?_,
    Instr.wf_decodeCommand⟩
  · exact step_of_fgReserved s (by rcases hf with e | e <;> rw [e] <;> rfl)
  · have hfg : fgReserved s.fg = false :=
      eq_false_of_ne_true fun h => (fgReserved_cases s.fg h).elim h14 h15
    exact step_of_statusReserved s hfg ((State.statusReserved_iff s).mpr ⟨hp, hst⟩)

/-! ### No step reaches a reserved code -/

/-- A handler rule leaves `status` alone or surfaces an error in it (R164, R165). -/
theorem exec_event_status (s v : State) (h : exec s.selectedEvent s = .next v) :
    v.status = s.status ∨ v.status = Status.arbLost ∨ v.status = Status.nack := by
  rcases exec_event_cases s v h with ⟨-, -, rfl⟩ | ⟨-, -, -, ⟨-, rfl⟩ | ⟨-, rfl⟩ | ⟨-, rfl⟩⟩ | ⟨-, -, rfl⟩ |
    ⟨-, -, ⟨-, rfl⟩ | ⟨-, rfl⟩ | ⟨-, rfl⟩⟩ | ⟨-, ⟨-, rfl⟩ | ⟨-, rfl⟩⟩ | ⟨-, ⟨-, rfl⟩ | ⟨-, rfl⟩⟩ | ⟨-, rfl⟩ |
    ⟨-, rfl⟩ | ⟨-, rfl⟩ <;> simp

/-- A micro-operation leaves `status` alone and goes to a position of the table (R110, R120). -/
theorem exec_position_unreserved (s v : State) (hi : s.fg ≠ Fg.idle) (h : exec (decodePosition s.fg) s = .next v) :
    v.status = s.status ∧ fgReserved v.fg = false := by
  rcases exec_position_cases s v hi h with ⟨-, rfl⟩ | ⟨-, rfl⟩ | ⟨-, rfl⟩ | ⟨-, rfl⟩ | ⟨-, rfl⟩ | ⟨-, rfl⟩ | ⟨-, rfl⟩ |
    ⟨-, -, rfl⟩ | ⟨-, -, rfl⟩ | ⟨-, rfl⟩ | ⟨-, rfl⟩ | ⟨-, rfl⟩ | ⟨-, rfl⟩ | ⟨-, rfl⟩ <;>
    refine ⟨by simp, ?_⟩ <;> simp [fgReserved] <;> split <;> decide

theorem State.periphStep_status (s : State) (p : PeriphStep) : (s.periphStep p).status = s.status := by
  rcases State.periphStep_cases s p with e | ⟨-, -, -, e⟩ | ⟨-, -, e⟩ | ⟨-, -, v, rest, -, e⟩ | ⟨-, e⟩ | ⟨x, e⟩ <;>
    simp [e]

/-- No agent writes a reserved position to `fg`. -/
theorem StepOutcome.fgReserved_eq_false {s t : State} (h : StepOutcome s t) (hs : fgReserved s.fg = false) :
    fgReserved t.fg = false := by
  cases h with
  | write w ws a d ha hc hd ht => simp [ht, fgReserved]
  | read w ws a ha hc hd ht => simp [ht, fgReserved]
  | position u hm hl hi hu ht =>
    obtain ⟨-, hf⟩ := exec_position_unreserved _ u (by simpa using hi) hu
    simpa [ht] using hf
  | boot hm hr hf hl ht => simpa [ht] using hs
  | event u hm he hu ht =>
    obtain ⟨hf, -⟩ := exec_event_frame _ u hu
    simpa [ht, hf] using hs
  | periph p hm ht =>
    obtain ⟨-, -, -, hf, -⟩ := State.periphStep_keeps s.takeTurn p
    simpa [ht, hf] using hs
  | host w hm ht => simpa [ht] using hs
  | pass hm ht => simpa [ht] using hs

/-- `status` is written by an accepted command and by the two error events (R25, R80, R81, R164, R165). -/
theorem StepOutcome.status_cases {s t : State} (h : StepOutcome s t) :
    t.status = s.status ∨ t.status = Status.ok ∨ t.status = Status.arbLost ∨ t.status = Status.nack := by
  cases h with
  | write w ws a d ha hc hd ht =>
    simp only [ht, State.latchIv_fields, State.goto_fields, State.clearStatus_fields]
    split_ifs <;> simp
  | read w ws a ha hc hd ht =>
    simp only [ht, State.latchIv_fields, State.goto_fields, State.clearStatus_fields]
    split_ifs <;> simp
  | position u hm hl hi hu ht =>
    obtain ⟨hst, -⟩ := exec_position_unreserved _ u (by simpa using hi) hu
    exact .inl (by simp [ht, hst])
  | boot hm hr hf hl ht => exact .inl (by simp [ht])
  | event u hm he hu ht => simpa [ht] using (exec_event_status _ u hu).imp_right .inr
  | periph p hm ht => exact .inl (by simp [ht, State.periphStep_status])
  | host w hm ht => exact .inl (by simp [ht])
  | pass hm ht => exact .inl (by simp [ht])

theorem StepOutcome.status_ne_reserved {s t : State} (h : StepOutcome s t) (hs : s.status ≠ Status.reserved) :
    t.status ≠ Status.reserved := by
  rcases h.status_cases with e | e | e | e <;> rw [e]
  · exact hs
  all_goals decide

/-! ### The only stop -/

/-- The operations of the receive event are its three tiers (R62, R66). -/
theorem eq_rx_of_encode (i : Instr) (h : encode i = .event Ev.rxFull) : i = .rxCont ∨ i = .rxPenult ∨ i = .rxLast := by
  cases i
  case rxCont | rxPenult | rxLast => simp
  all_goals simp [encode] at h

/-- A well-formed operation goes on, or is a receive event past the last cell (R41, R180). -/
theorem exec_next_or_overrun (i : Instr) (s : State) (hi : i.wf = true) :
    (∃ v, exec i s = .next v) ∨
    (encode i = .event Ev.rxFull ∧ s.rxCursor = 3 ∧ exec i s = .fault (.rxOverrun 3)) := by
  by_cases hc : encode i = .event Ev.rxFull ∧ s.rxCursor = 3
  · obtain ⟨he, h3⟩ := hc
    cases ha : s.aborted
    · obtain ⟨hcont, hpenult, hlast⟩ := execRx_overrun s ha h3
      refine .inr ⟨he, h3, ?_⟩
      rcases eq_rx_of_encode i he with rfl | rfl | rfl
      exacts [hcont, hpenult, hlast]
    · left
      rcases eq_rx_of_encode i he with rfl | rfl | rfl
      exacts [⟨_, execRxCont_aborted s ha⟩, ⟨_, execRxPenult_aborted s ha⟩, ⟨_, execRxLast_aborted s ha⟩]
  · exact .inl (exec_next i s hi fun he h3 => hc ⟨he, h3⟩)

/-- Off the reserved positions a turn selects a well-formed operation, and a receive event only in a handler turn, at
the cursor of the state. -/
theorem State.fetch_wf (s u : State) (m : Move) (i : Instr) (hf : fgReserved s.fg = false)
    (h : s.fetch m = some (i, u)) :
    i.wf = true ∧ (encode i = .event Ev.rxFull → m = .interrupt ∧ u = s) := by
  rcases State.fetch_cases s m i u h with ⟨-, h⟩ | ⟨hm, -, rfl, rfl⟩
  · obtain ⟨-, ⟨-, -, ⟨-, rfl, rfl⟩ | ⟨w, ws, -, rfl, rfl⟩⟩ | ⟨-, -, rfl, rfl⟩⟩ := State.fetchForeground_cases s i u h
    · exact ⟨rfl, fun e => by cases e⟩
    · exact ⟨Instr.wf_decodeCommand w, fun e => absurd e (encode_decodeCommand_ne_event w _)⟩
    · refine ⟨Instr.wf_decodePosition _ hf, fun e => ?_⟩
      cases (encode_decodePosition u.fg).symm.trans e
  · exact ⟨Instr.wf_decodeEvent _ _ _, fun _ => ⟨hm, rfl⟩⟩

/-- Off the reserved codes a step goes on, or it is a handler turn that overruns the receive destination (R41, R180). -/
theorem step_next_or_overrun (s : State) (hf : fgReserved s.fg = false) (hs : s.statusReserved = false) :
    (∃ t, step s = .next t) ∨
    (s.turn.move = .interrupt ∧ s.rxCursor = 3 ∧ step s = .fault (.rxOverrun 3)) := by
  cases ho : s.takeTurn.fetch s.turn.move with
  | none => exact .inl ⟨_, step_of_no_fetch s hf hs ho⟩
  | some o =>
    obtain ⟨i, u⟩ := o
    obtain ⟨hi, hm⟩ := State.fetch_wf _ u _ i (by simpa using hf) ho
    rcases exec_next_or_overrun i u hi with ⟨v, hv⟩ | ⟨he, hc, hv⟩
    · exact .inl ⟨_, by rw [step_of_fetch s i u hf hs ho, hv, andThen_next]⟩
    · obtain ⟨hmove, rfl⟩ := hm he
      exact .inr ⟨hmove, by simpa using hc, by rw [step_of_fetch s i _ hf hs ho, hv, andThen_fault]⟩

/-- Settles O47: a step that goes on writes no reserved code, and the only stop is the overrun. -/
theorem noReservedCodeReached : Obligations.NoReservedCodeReached := by
  intro s hfg hst
  have hf : fgReserved s.fg = false := (fgReserved_eq_false_iff _).mpr hfg
  have hs : s.statusReserved = false :=
    eq_false_of_ne_true fun h => hst ((State.statusReserved_iff s).mp h).2
  rcases step_next_or_overrun s hf hs with ⟨t, ht⟩ | ⟨hm, hc, ht⟩
  · have ho := step_outcome s t ht
    exact .inl ⟨t, ht, (fgReserved_eq_false_iff _).mp (ho.fgReserved_eq_false hf), ho.status_ne_reserved hst⟩
  · exact .inr ⟨hc ▸ ht, hc, hm⟩

end Sys2Proof.Machine
end

section
/-! Proofs: the two commands and `R2_INIT`, what an accepted command starts, and who leaves TransactionState alone while a
transaction is armed (R80 to R84). -/

namespace Sys2Proof.Machine

/-! ### Where the operations are fetched -/

/-- A command is fetched at `IDLE` only, and the foreground fetches nothing while it is suspended (R65, R67). -/
theorem State.idle_of_fetchForeground_command (s u : State) (i : Instr) (w : CmdWord) (hw : encode i = .command w)
    (h : s.fetchForeground = some (i, u)) : s.fg = Fg.idle ∧ s.lpm = false := by
  obtain ⟨hl, ⟨hf, -, -⟩ | ⟨-, -, rfl, -⟩⟩ := State.fetchForeground_cases s i u h
  · exact ⟨hf, hl⟩
  · cases (encode_decodePosition s.fg).symm.trans hw

/-! ### What the commands and `R2_INIT` write -/

theorem State.clearStatus_of_ignore (s : State) (h : s.par.nackPolicy = .ignore) : s.clearStatus = s := by
  simp [State.clearStatus, State.surface_of_ignore s h]

theorem State.clearStatus_of_surface (s : State) (h : s.par.nackPolicy = .surface) :
    s.clearStatus = s.setStatus Status.ok := by
  simp [State.clearStatus, State.surface, h]

/-- Settles O9: under each policy the writes of `CALL_WRITE` are one update. -/
theorem callWriteInitialises : Obligations.CallWriteInitialises := by
  intro a d s
  refine ⟨decodeCommand_write a d, fun u h => State.idle_of_fetchForeground_command s u _ _ rfl h,
    fun hp => ?_, fun hp => ?_⟩
  · rw [exec, execWrite, State.clearStatus_of_ignore]
    exacts [rfl, hp]
  · rw [exec, execWrite, State.clearStatus_of_surface]
    exacts [rfl, hp]

/-- Settles O10: under each policy the writes of `CALL_READ` are one update, which leaves `addr_byte` out. -/
theorem callReadInitialises : Obligations.CallReadInitialises := by
  intro a d s
  refine ⟨decodeCommand_read a d, fun u h => State.idle_of_fetchForeground_command s u _ _ rfl h,
    fun hp => ?_, fun hp => ?_⟩
  · rw [exec, execRead, State.clearStatus_of_ignore]
    exacts [rfl, hp]
  · rw [exec, execRead, State.clearStatus_of_surface]
    exacts [rfl, hp]

/-- Settles O11: `R2_INIT` is its two writes, and a suspended foreground fetches nothing. -/
theorem phaseTwoInitialises : Obligations.PhaseTwoInitialises :=
  ⟨rfl, fun s => ⟨fun u h => (State.fetchForeground_cases s _ u h).left, rfl⟩⟩

/-! ### An accepted command starts a call -/

/-- A command is accepted between two transactions, by a foreground that is awake (R80, R81). -/
theorem State.released_of_accepts (s : State) (i : Instr) (hp : s.protocol) (ha : s.accepts i) :
    s.lpm = false ∧ s.released := by
  obtain ⟨-, -, hin⟩ := hp
  obtain ⟨-, hf, -⟩ := ha
  exact State.inPhase_idle s hin hf

/-- The step that accepts a command takes it off the port and executes it (R38, R65). -/
theorem step_of_accepts (s : State) (i : Instr) (hp : s.protocol) (ha : s.accepts i) :
    step s = andThen (exec i s.takeTurn.popCmd) fun v => .next (v.latchIv s.turn.ivPick) := by
  obtain ⟨hfg, hst⟩ := State.not_reserved_of_protocol s hp
  obtain ⟨hm, hf, hl, hr, w, ws, hc, rfl⟩ := ha
  obtain ⟨-, hcommand, -⟩ := stepRunsTheSelectedOperation s hfg hst
  rw [State.popCmd_of_cons _ w ws (by simpa using hc)]
  exact hcommand w ws hm hl hf hr hc

/-- Between two transactions the log settles to what it is, followed by the stop still pending if there is one. -/
theorem State.logSettles_of_released (s : State) (h : s.released) :
    s.logSettles (if s.ctl.txstp = true then s.txLog ++ [BusItem.stop] else s.txLog) := by
  rcases h with h | h
  · obtain ⟨-, -, hp⟩ := id h
    exact .inl ⟨h, by simp [hp]⟩
  · obtain ⟨-, -, hp⟩ := id h
    exact .inr ⟨h, by simp [hp]⟩

/-- A state that agrees with one between two transactions in the bus, the flags and the log settles to the same log. -/
theorem State.logSettles_of_sameBus (s t : State) (h : s.released) (hc : t.ctl = s.ctl) (hi : t.ifg = s.ifg)
    (hb : t.bus = s.bus) (hf : t.txbufFull = s.txbufFull) (hlog : t.txLog = s.txLog) :
    t.logSettles (if s.ctl.txstp = true then s.txLog ++ [BusItem.stop] else s.txLog) := by
  have hk := State.logSettles_of_released t ((State.released_congr s t hc hi hb hf).mpr h)
  rwa [hc, hlog] at hk

/-- Settles O54: the step is `CALL_WRITE`, which stops at `W_POLL` and leaves bus and log to the stop before. -/
theorem writeAccepted : Obligations.WriteAccepted := by
  intro s a d hp ha
  obtain ⟨hl, hrel⟩ := State.released_of_accepts s _ hp ha
  have hstep := step_of_accepts s _ hp ha
  obtain ⟨hig, -⟩ := hp
  refine ⟨_, hstep, by simpa using hig, State.ivConsistent_latchIv _ _, by simp, by simp, by simp, by simp, .inl ?_⟩
  exact ⟨by simp, by simpa using hl, by simp, by simp,
    State.logSettles_of_sameBus s _ hrel (by simp) (by simp) (by simp) (by simp) (by simp)⟩

/-- Settles O57: the step is `CALL_READ`, which stops at `R1_POLL` and leaves bus, log and the slave's bytes alone. -/
theorem readAccepted : Obligations.ReadAccepted := by
  intro s a hp hmem ha
  obtain ⟨hl, hrel⟩ := State.released_of_accepts s _ hp ha
  have hstep := step_of_accepts s _ hp ha
  obtain ⟨hig, -⟩ := hp
  refine ⟨_, hstep, by simpa using hig, State.ivConsistent_latchIv _ _, by simp, by simp, by simp, by simpa using hmem,
    .inl ?_⟩
  exact ⟨by simp, by simpa using hl, by simp, by simp, by simp, by simp,
    State.logSettles_of_sameBus s _ hrel (by simp) (by simp) (by simp) (by simp) (by simp)⟩

/-! ### While a transaction is armed -/

/-- From the `*_ARM` on, the foreground is asleep or stands before its `*_SLEEP` (R9, R37). -/
theorem State.lpm_or_inArmWindow_of_armed (s : State) (h : s.armed = true) : s.lpm = true ∨ s.inArmWindow = true := by
  cases hw : s.inArmWindow
  · exact .inl (by rwa [State.armed_of_not_inArmWindow s hw] at h)
  · exact .inr rfl

/-- No command is accepted meanwhile: that needs the foreground awake at `IDLE` (R38, R65). -/
theorem State.not_accepts_of_lpm_or_inArmWindow (s : State) (i : Instr) (h : s.lpm = true ∨ s.inArmWindow = true) :
    ¬ s.accepts i := by
  rintro ⟨-, hf, hl, -⟩
  simp [hl, (State.outside_of_idle s hf).2] at h

theorem execR1Settle_sameTransaction (s t : State) (h : execR1Settle s = .next t) : s.sameTransaction t := by
  cases ha : s.aborted
  · cases (execR1Settle_ok s ha).symm.trans h
    simp [State.sameTransaction]
  · cases (execR1Settle_aborted s ha).symm.trans h
    simp [State.sameTransaction]

/-- A `*_SLEEP` and a `*_SETTLE` write nothing of TransactionState (R84). -/
theorem exec_sleep_or_settle_sameTransaction (i : Instr) (s t : State)
    (hi : i = .wSleep ∨ i = .r1Sleep ∨ i = .r2Sleep ∨ i = .wSettle ∨ i = .r1Settle ∨ i = .r2Settle)
    (h : exec i s = .next t) : s.sameTransaction t := by
  have hsleep (x : FgCode) (e : s.suspend x = .next t) : s.sameTransaction t := by
    cases e
    simp [State.sameTransaction]
  have hreturn (r : Response) (e : .next ((s.respond r).goto Fg.idle) = exec i s) : s.sameTransaction t := by
    cases e.trans h
    simp [State.sameTransaction]
  rcases hi with rfl | rfl | rfl | rfl | rfl | rfl
  exacts [hsleep _ h, hsleep _ h, hsleep _ h, hreturn _ rfl, execR1Settle_sameTransaction s t h, hreturn _ rfl]

/-- Settles O31: of the writers of the counters and the cursor, a command needs the foreground awake at `IDLE` and
`R2_INIT` needs it awake at its own position; the handler is what is left. -/
theorem mutationDiscipline : Obligations.MutationDiscipline := by
  refine ⟨fun s t ha h hm => ?_, exec_sleep_or_settle_sameTransaction⟩
  have hw : s.lpm = true ∨ s.inArmWindow = true := ha.elim (State.lpm_or_inArmWindow_of_armed s) .inr
  by_cases hp : s.turn.move = .foreground ∧ s.lpm = true
  · have ht := (step_outcome s t h).passes (.inl hp)
    simp [ht]
  · have hno (i : Instr) : ¬ s.accepts i := State.not_accepts_of_lpm_or_inArmWindow s i hw
    have hinit (hf : s.turn.move = .foreground) : s.fg ≠ Fg.r2Init := by
      have hs := hw.resolve_left fun hl => hp ⟨hf, hl⟩
      exact fun hi => by simp [State.inArmWindow, hi] at hs
    obtain ⟨-, htx, hrx, -, -, hcur, -⟩ := transactionStateWriters s t h
    refine ⟨by simpa [hno, hm] using htx, ?_, by simpa [hno, hm] using hcur⟩
    rcases hrx with e | ⟨-, hf, hi⟩ | ⟨hi, -⟩
    · exact e
    · exact absurd hi (hinit hf)
    · exact absurd hi hm

end Sys2Proof.Machine
end

section
/-! Proofs: what each handler rule answers, as one update of the state, and that every event has a rule (R91 to R101,
R104). -/

namespace Sys2Proof.Machine

/-! ### When the rules of R91 to R96 apply -/

/-- Under `Ignore`, and under `Surface` while `status` is `Ok`, no transaction is aborted (R25, R166). -/
theorem State.aborted_of_ignore_or_ok (s : State) (h : s.par.nackPolicy = .ignore ∨ s.status = Status.ok) :
    s.aborted = false := by
  rcases h with hp | hs
  · exact State.aborted_of_ignore s hp
  · simp [State.aborted, hs]

/-- A receive tier of an aborted transaction discards its byte, wherever the cursor stands (R166). -/
theorem exec_rx_of_aborted (i : Instr) (s : State) (hi : encode i = .event Ev.rxFull) (ha : s.aborted = true) :
    exec i s = .next s.readRxbuf := by
  rcases eq_rx_of_encode i hi with rfl | rfl | rfl
  exacts [execRxCont_aborted s ha, execRxPenult_aborted s ha, execRxLast_aborted s ha]

/-! ### The operations that branch, as one update -/

/-- `finishCount` as one update (R93). -/
theorem State.finishCount_eq (s : State) :
    s.finishCount =
      { s with
        rxRemaining := if s.rxRemaining = 1 then 0 else Config.freeCounter s.freeCount
        freeCount := if s.rxRemaining = 1 then s.freeCount else s.freeCount + 1 } := by
  unfold State.finishCount
  split_ifs <;> rfl

/-- `clearTrIfRead` as one update (R96). -/
theorem State.clearTrIfRead_eq (s : State) :
    s.clearTrIfRead = { s with ctl := { s.ctl with tr := if s.direction = .read then false else s.ctl.tr } } := by
  obtain ⟨d⟩ := s
  cases d <;> rfl

/-! ### Receive tiers -/

/-- Settles O12: outside an aborted transaction the cursor alone decides between the store and the overrun. -/
theorem rxContReceives : Obligations.RxContReceives := by
  refine ⟨decodeEvent_rxCont, fun s h => ?_⟩
  have ha := State.aborted_of_ignore_or_ok s h
  refine ⟨execRxCont_stores s ha, fun hc => ?_⟩
  obtain ⟨hcont, -, -⟩ := execRx_overrun s ha hc
  exact hcont

/-- Settles O13: as O12, with the stop requested; the decrement of the selecting value 2 leaves 1. -/
theorem rxPenultReceivesAndStops : Obligations.RxPenultReceivesAndStops := by
  refine ⟨decodeEvent_rxPenult, fun s h h2 => ?_⟩
  have ha := State.aborted_of_ignore_or_ok s h
  have h1 : s.rxRemaining - 1 = 1 := by rw [h2]; rfl
  refine ⟨fun hc => ?_, fun hc => ?_⟩
  · rw [exec, execRxPenult_stores s ha hc, h1]
    rfl
  · obtain ⟨-, hpenult, -⟩ := execRx_overrun s ha hc
    exact hpenult

/-- Settles O14: the store, then the count and the wake-up, each as one update. -/
theorem rxLastReceivesAndWakes : Obligations.RxLastReceivesAndWakes := by
  refine ⟨decodeEvent_rxLast, fun s h => ?_⟩
  have ha := State.aborted_of_ignore_or_ok s h
  refine ⟨fun hc => ?_, fun hc => ?_⟩
  · rw [exec, execRxLast_stores s ha hc, State.finishCount_eq, State.wake_eq]
    rfl
  · obtain ⟨-, -, hlast⟩ := execRx_overrun s ha hc
    exact hlast

/-! ### Transmit tiers -/

/-- Settles O16: each tier writes its byte to `TXBUF` and then its count. -/
theorem transmitTiersSend : Obligations.TransmitTiersSend := by
  refine ⟨fun tx rx => ⟨decodeEvent_txAddr tx rx, decodeEvent_txData tx rx⟩, fun s h => ?_⟩
  have ha := State.aborted_of_ignore_or_ok s h
  exact ⟨execTxAddr_sends s ha, execTxData_sends s ha⟩

/-- Settles O17: the direction selects what becomes of `CTL.tr`; the wake-up is one update. -/
theorem txDoneStopsAndWakes : Obligations.TxDoneStopsAndWakes := by
  refine ⟨decodeEvent_txDone, fun s h => ?_⟩
  have ha := State.aborted_of_ignore_or_ok s h
  rw [exec, execTxDone_stops s ha, State.clearTrIfRead_eq, State.wake_eq]
  rfl

/-! ### Other events, and no event -/

/-- `EV_ARB_LOST` where no error surfaces: the acknowledgement alone (R97, R165). -/
theorem execEvArbLost_acks (s : State) (h : s.surfacesError = false) :
    execEvArbLost s = .next (s.ackOther .arbLost) := by
  simp [execEvArbLost, h]

/-- `EV_NACK` where no error surfaces: the acknowledgement alone (R98, R164). -/
theorem execEvNack_acks (s : State) (h : s.surfacesError = false) : execEvNack s = .next (s.ackOther .nack) := by
  simp [execEvNack, h]

/-- Settles O18: under `Ignore` no error surfaces, and the other two events read no policy. -/
theorem otherEventsAcknowledged : Obligations.OtherEventsAcknowledged :=
  ⟨fun tx rx =>
    ⟨decodeEvent_arbLost tx rx, decodeEvent_nack tx rx, decodeEvent_start tx rx, decodeEvent_stop tx rx⟩,
    fun s =>
      ⟨fun hp => execEvArbLost_acks s (State.surfacesError_of_ignore s hp),
        fun hp => execEvNack_acks s (State.surfacesError_of_ignore s hp), rfl, rfl⟩⟩

/-- Settles O19: the two codes without a cause select the two rules without an action. -/
theorem noEventNoAction : Obligations.NoEventNoAction :=
  ⟨fun tx rx => ⟨decodeEvent_none tx rx, decodeEvent_reserved tx rx⟩, fun _ => ⟨rfl, rfl⟩⟩

/-! ### Every event has a transition -/

/-- Settles O27: a selected rule is well formed, so it goes on or overruns; it overruns only as a receive tier, whose
code is then `IV`, and not in an aborted transaction, which discards the byte. -/
theorem everyEventHasATransition : Obligations.EveryEventHasATransition := by
  intro s
  rcases exec_next_or_overrun _ s (Instr.wf_decodeEvent s.iv s.txRemaining s.rxRemaining) with hv | ⟨he, hc, hf⟩
  · exact .inl hv
  · cases ha : s.aborted with
    | true => exact .inl ⟨_, exec_rx_of_aborted _ s he ha⟩
    | false =>
      have hiv : s.iv = Ev.rxFull := Code.event.inj ((encode_decodeEvent _ _ _).symm.trans he)
      exact .inr ⟨hc ▸ hf, hc, hiv, rfl⟩

end Sys2Proof.Machine
end

section
/-! Proofs: the foreground's micro-operations, each as one update of the state (R111 to R114, R121 to R129). -/

namespace Sys2Proof.Machine

/-- Settles O22: the three polls are one shared form. -/
theorem pollsWaitForStop : Obligations.PollsWaitForStop :=
  ⟨rfl, rfl, rfl, fun s =>
    ⟨s.poll_eq Fg.wPoll Fg.wArm, s.poll_eq Fg.r1Poll Fg.r1Arm, s.poll_eq Fg.r2Poll Fg.r2Arm⟩⟩

/-- Settles O23: each arm is its register write and the next position. -/
theorem armsIssueStart : Obligations.ArmsIssueStart :=
  ⟨rfl, rfl, rfl, fun _ => ⟨rfl, rfl, rfl⟩⟩

/-- Settles O24: each sleep is the two flags and the next position. -/
theorem sleepsSuspend : Obligations.SleepsSuspend :=
  ⟨rfl, rfl, rfl, fun _ => ⟨rfl, rfl, rfl⟩⟩

/-- Settles O25: a settle responds with what the port carries; whether `R1_SETTLE` returns is whether the transaction
has been aborted. -/
theorem settlesReturn : Obligations.SettlesReturn := by
  refine ⟨rfl, rfl, rfl, fun s u i _ h => (State.fetchForeground_cases s i u h).left, fun s st h => ?_⟩
  obtain rfl : s.respStatus = st := by
    rcases h with ⟨hp, rfl⟩ | ⟨hp, rfl⟩ <;> simpa [hp] using s.respStatus_cases
  refine ⟨rfl, rfl, fun hok => execR1Settle_ok s (State.aborted_of_ignore_or_ok s hok), fun hp hs => ?_⟩
  exact execR1Settle_aborted s (by simpa [State.aborted, State.surface, hp] using hs)

end Sys2Proof.Machine
end

section
/-! Proofs: a `WRITE` that nothing delays, turn by turn (R110, R115, R144). That the call is kept is `writeGuarantees`;
what is left is that each turn moves it on, until `fg` is back at `IDLE`. -/

namespace Sys2Proof.Machine

/-! ### Several steps -/

/-- `n` steps from `s` go on, and lead to a state that meets `P`. -/
def State.reaches (s : State) (n : Nat) (P : State → Prop) : Prop := ∃ t, runSteps n s = .next t ∧ P t

theorem State.reaches_one {s t : State} {P : State → Prop} (h : step s = .next t) (hP : P t) : s.reaches 1 P :=
  ⟨t, by simp [runSteps, h], hP⟩

/-- A step is followed by the steps that go on from where it leads. -/
theorem State.reaches_succ {s : State} {n : Nat} {P Q : State → Prop} (h : s.reaches 1 Q)
    (k : ∀ t, Q t → t.reaches n P) : s.reaches (n + 1) P := by
  obtain ⟨t, ht, hQ⟩ := h
  obtain ⟨u, hu, hnext⟩ := (andThen_eq_next _ _ _).mp ht
  cases hnext
  obtain ⟨v, hv, hP⟩ := k t hQ
  exact ⟨v, by simp [runSteps, hu, hv], hP⟩

theorem State.turn_of_sched (s : State) (x : Turn) (ts : List Turn) (h : s.sched = x :: ts) : s.turn = x := by
  simp [State.turn, h]

/-! ### A call that runs undisturbed -/

/-- The block is configured, `IV` can report no cause but `TX_EMPTY`, the words `ws` wait at the command port, and the
turns `ts` are to come. -/
structure State.undisturbed (s : State) (ws : List CmdWord) (ts : List Turn) : Prop where
  configured : s.ctl.swrst = false
  enabled : s.ie.txEmpty = true
  onlyTransmit : ∀ c, s.pending.has c = true → c = Ev.txEmpty
  port : s.cmds = ws
  turns : s.sched = ts

section

variable {a d : Byte} {log : List BusItem} {w : Nat} {rs : List Response} {ws : List CmdWord}
  {ts : List Turn} {x : Turn}

/-- A turn that writes no flag but `IFG.tx_empty` leaves the call undisturbed, with that turn used up. -/
theorem State.undisturbed.next {s : State} (h : s.undisturbed ws (x :: ts)) (t : State)
    (hc : t.ctl.swrst = s.ctl.swrst := by simp) (hie : t.ie = s.ie := by simp)
    (hifg : t.ifg = { s.ifg with txEmpty := t.ifg.txEmpty } := by simp) (hp : t.cmds = s.cmds := by simp)
    (hs : t.sched = s.sched.tail := by simp) : t.undisturbed ws ts := by
  refine ⟨hc.trans h.configured, by rw [hie, h.enabled], fun c hk => ?_, hp.trans h.port, by simp [hs, h.turns]⟩
  have hkeep : t.ifg.has c = s.ifg.has c ∨ c = Ev.txEmpty := by
    rw [hifg]
    rcases EventCode.cases c with rfl | rfl | rfl | rfl | rfl | rfl | rfl | rfl <;> simp [EventBits.has]
  rcases hkeep with e | e
  · exact h.onlyTransmit c (by rwa [State.has_pending_iff, ← e, ← hie, ← State.has_pending_iff])
  · exact e

/-- With `IFG.tx_empty` set, `IV` reports it, and it is a cause pending and enabled (R33, R168). -/
theorem State.undisturbed.txEmpty {s : State} (h : s.undisturbed ws ts) (hiv : s.ivConsistent = true)
    (ht : s.ifg.txEmpty = true) : s.iv = Ev.txEmpty ∧ s.causePending = true := by
  have hc : s.causePending = true :=
    (State.causePending_iff s).mpr ⟨Ev.txEmpty, (State.has_pending_iff s _).mpr ⟨ht, h.enabled⟩⟩
  rcases State.iv_of_ivConsistent s hiv with k | ⟨-, k⟩
  · exact ⟨h.onlyTransmit _ k, hc⟩
  · simp [hc] at k

/-- `WRITE a, d` is in progress (`State.writeCall`) and runs undisturbed. -/
def State.writeRuns (s : State) (a d : Byte) (log : List BusItem) (w : Nat) (rs : List Response) (ws : List CmdWord)
    (ts : List Turn) : Prop := s.writeCall a d log w rs ∧ s.undisturbed ws ts

/-- The step of a call in progress that does not return keeps it. -/
theorem State.writeRuns.next {s t : State} (hs : s.writeRuns a d log w rs ws (x :: ts)) (h : step s = .next t)
    (hu : t.undisturbed ws ts) (hf : t.fg ≠ Fg.idle) : t.writeRuns a d log w rs ws ts := by
  obtain ⟨u, hu', hk⟩ := writeGuarantees s a d log w rs hs.left
  cases h.symm.trans hu'
  exact ⟨hk.resolve_right fun hr => hf hr.left, hu⟩

/-- The step that leads back to `IDLE` returns with the guarantees. -/
theorem State.writeReturned_of_step {s t : State} (hs : s.writeCall a d log w rs) (h : step s = .next t)
    (hf : t.fg = Fg.idle) : t.writeReturned a d log w rs := by
  obtain ⟨u, hu, hk⟩ := writeGuarantees s a d log w rs hs
  cases h.symm.trans hu
  exact hk.resolve_left fun hc => State.busy_of_writeCall _ hc hf

/-! ### The foreground's turns -/

theorem State.returnHeld_of_writeCall (s : State) (h : s.writeCall a d log w rs) : s.returnHeld = false := by
  obtain ⟨-, -, -, -, -, -, ⟨e, -⟩ | ⟨e, -⟩ | ⟨e, -⟩ | ⟨e, -⟩ | ⟨e, -⟩⟩ := h <;>
    simp [State.returnHeld, State.returnsRead, e]

/-- A micro-operation writes no flag, and draws no turn. -/
theorem exec_position_ifg (s v : State) (hi : s.fg ≠ Fg.idle) (h : exec (decodePosition s.fg) s = .next v) :
    v.ifg = s.ifg ∧ v.sched = s.sched := by
  rcases exec_position_cases s v hi h with ⟨-, rfl⟩ | ⟨-, rfl⟩ | ⟨-, rfl⟩ | ⟨-, rfl⟩ | ⟨-, rfl⟩ | ⟨-, rfl⟩ | ⟨-, rfl⟩ |
    ⟨-, -, rfl⟩ | ⟨-, -, rfl⟩ | ⟨-, rfl⟩ | ⟨-, rfl⟩ | ⟨-, rfl⟩ | ⟨-, rfl⟩ | ⟨-, rfl⟩ <;> simp

/-- A foreground turn runs the micro-operation in `fg` (R67). -/
theorem step_of_writeRuns_foreground {s : State} (v : State) {p : FgCode}
    (h : s.writeRuns a d log w rs ws (⟨.foreground, 0⟩ :: ts)) (hf : s.fg = p) (hl : s.lpm = false)
    (hv : exec (decodePosition p) s.takeTurn = .next v) :
    ∃ i, step s = .next ((v.noteWake i).latchIv 0) ∧ ((v.noteWake i).latchIv 0).undisturbed ws ts := by
  obtain ⟨hcall, hu⟩ := h
  have hx := State.turn_of_sched s _ _ hu.turns
  have hi := State.busy_of_writeCall s hcall
  obtain ⟨hfg, hst⟩ := State.not_reserved_of_protocol s (State.protocol_of_writeCall s hcall)
  obtain ⟨hposition, -⟩ := stepRunsTheSelectedOperation s hfg hst
  have hstep := hposition (by simp [hx]) hl hi (State.returnHeld_of_writeCall s hcall)
  have hv' : exec (decodePosition s.takeTurn.fg) s.takeTurn = .next v := by simpa [hf] using hv
  obtain ⟨⟨-, krst, -, -, -, -, -, -, kie⟩, kcmds, -⟩ := exec_position_keeps _ v (by simpa using hi) hv'
  obtain ⟨kifg, ksched⟩ := exec_position_ifg _ v (by simpa using hi) hv'
  refine ⟨decodePosition p, by rw [hstep, hf, hv, andThen_next, hx], hu.next _ ?_ ?_ ?_ ?_ ?_⟩ <;>
    simp [krst, kie, kcmds, kifg, ksched]

/-- `W_POLL` on a bus without a pending stop goes on (R111). -/
theorem State.writeRuns_poll (s : State) (h : s.writeRuns a d log w rs ws (⟨.foreground, 0⟩ :: ts))
    (hf : s.fg = Fg.wPoll) (hl : s.lpm = false) (hp : s.ctl.txstp = false) :
    s.reaches 1 fun t => t.writeRuns a d log w rs ws ts ∧ t.fg = Fg.wArm ∧ t.lpm = false := by
  have hv : exec .wPoll s.takeTurn = .next (s.takeTurn.goto Fg.wArm) :=
    (State.poll_eq s.takeTurn Fg.wPoll Fg.wArm).trans (by simp [hp])
  obtain ⟨i, hstep, hu⟩ := step_of_writeRuns_foreground _ h hf hl hv
  exact State.reaches_one hstep ⟨h.next hstep hu (by simp), by simp, by simpa using hl⟩

/-- `W_ARM` requests the start (R112). -/
theorem State.writeRuns_arm (s : State) (h : s.writeRuns a d log w rs ws (⟨.foreground, 0⟩ :: ts))
    (hf : s.fg = Fg.wArm) (hl : s.lpm = false) :
    s.reaches 1 fun t => t.writeRuns a d log w rs ws ts ∧ t.fg = Fg.wSleep ∧ t.lpm = false ∧ t.ctl.txstt = true := by
  obtain ⟨i, hstep, hu⟩ := step_of_writeRuns_foreground (s.takeTurn.setTr.issueStart.goto Fg.wSleep) h hf hl rfl
  exact State.reaches_one hstep ⟨h.next hstep hu (by simp), by simp, by simpa using hl, by simp⟩

/-- The foreground sleeps on its way to `W_SETTLE`, with interrupts enabled (R113). -/
def State.sleepsInWrite (s : State) : Prop := s.fg = Fg.wSettle ∧ s.lpm = true ∧ s.gie = true

/-- `W_SLEEP` suspends the foreground, the start still requested (R113). -/
theorem State.writeRuns_sleep (s : State) (h : s.writeRuns a d log w rs ws (⟨.foreground, 0⟩ :: ts))
    (hf : s.fg = Fg.wSleep) (hl : s.lpm = false) (hs : s.ctl.txstt = true) :
    s.reaches 1 fun t => t.writeRuns a d log w rs ws ts ∧ t.sleepsInWrite ∧ t.ctl.txstt = true := by
  obtain ⟨i, hstep, hu⟩ := step_of_writeRuns_foreground (s.takeTurn.sleep.goto Fg.wSettle) h hf hl rfl
  exact State.reaches_one hstep ⟨h.next hstep hu (by simp), ⟨by simp, by simp, by simp⟩, by simpa using hs⟩

/-- `W_SETTLE` returns, with the guarantees of the call (R114, R115). -/
theorem State.writeRuns_settle (s : State) (h : s.writeRuns a d log w rs ws (⟨.foreground, 0⟩ :: ts))
    (hf : s.fg = Fg.wSettle) (hl : s.lpm = false) :
    s.reaches 1 fun t => t.writeReturned a d log w rs ∧ t.cmds = ws ∧ t.sched = ts := by
  obtain ⟨i, hstep, hu⟩ := step_of_writeRuns_foreground (s.takeTurn.respondWritten.goto Fg.idle) h hf hl rfl
  exact State.reaches_one hstep ⟨State.writeReturned_of_step h.left hstep (by simp), hu.port, hu.turns⟩

/-! ### The peripheral's turns -/

/-- An enabled step of the peripheral is taken in its turn (R137). -/
theorem step_of_writeRuns_periph (s : State) (p : PeriphStep)
    (h : s.writeRuns a d log w rs ws (⟨.peripheral p, 0⟩ :: ts)) (hp : s.periphEnabled p = true) :
    step s = .next ((s.takeTurn.periphDo p).latchIv 0) := by
  obtain ⟨hcall, hu⟩ := h
  have hx := State.turn_of_sched s _ _ hu.turns
  obtain ⟨hfg, hst⟩ := State.not_reserved_of_protocol s (State.protocol_of_writeCall s hcall)
  obtain ⟨hperiph, -⟩ := stepWithoutOperation.2 s hfg hst
  have hp' : s.takeTurn.periphEnabled p = true := by simpa [State.periphEnabled] using hp
  rw [hperiph p (by simp [hx]), State.periphStep, if_pos hp', hx]

/-- The handler is to hand over the next byte of the call, or the stop, with `n` bytes left to send (R94 to R96). -/
def State.byteDue (s : State) (n : Counter) : Prop := s.sleepsInWrite ∧ s.ifg.txEmpty = true ∧ s.txRemaining = n

/-- The peripheral is to take the byte that waits, with `n` bytes left to send (R139). -/
def State.byteWaits (s : State) (n : Counter) : Prop := s.sleepsInWrite ∧ s.txbufFull = true ∧ s.txRemaining = n

/-- Where the start of a `WRITE` is requested, the bus is free, and both bytes are left to send. -/
theorem State.writeCall_of_txstt (s : State) (h : s.writeCall a d log w rs) (hs : s.ctl.txstt = true) :
    s.ctl.txstp = false ∧ s.ctl.tr = true ∧ s.bus = .busIdle ∧ s.txRemaining = 2 := by
  obtain ⟨-, -, -, -, -, -, h⟩ := h
  simp [State.logSettles, State.free, State.releasing, State.quiet, State.writeSending, State.writeSent, hs] at h
  tauto

/-- Where a byte waits in `TXBUF`, a transmit is on the bus. -/
theorem State.writeCall_of_txbufFull (s : State) (h : s.writeCall a d log w rs) (hb : s.txbufFull = true) :
    s.bus = .txActive := by
  obtain ⟨-, -, -, -, -, -, h⟩ := h
  simp [State.logSettles, State.free, State.releasing, State.quiet, State.writeSending, State.writeSent, hb] at h
  tauto

/-- `P_START` generates the start, and asks for the first byte (R138). -/
theorem State.writeRuns_start (s : State) (h : s.writeRuns a d log w rs ws (⟨.peripheral .start, 0⟩ :: ts))
    (hw : s.sleepsInWrite) (hs : s.ctl.txstt = true) :
    s.reaches 1 fun t => t.writeRuns a d log w rs ws ts ∧ t.byteDue 2 := by
  obtain ⟨hcall, hu⟩ := id h
  obtain ⟨hstp, htr, hbus, hn⟩ := State.writeCall_of_txstt s hcall hs
  have hstep := step_of_writeRuns_periph s .start h (by simp [State.periphEnabled, hu.configured, hs, hstp, hbus])
  have hu' := hu.next (s.takeTurn.pStart.latchIv 0)
  obtain ⟨hf, hl, hg⟩ := hw
  refine State.reaches_one hstep ⟨h.next hstep hu' ?_, ⟨?_, ?_, ?_⟩, ?_, ?_⟩ <;>
    simp [State.periphDo, hf, hl, hg, htr, hn]

/-- `P_TX_TAKE` clocks the byte that waits onto the bus, and asks for the next one (R139). -/
theorem State.writeRuns_take (s : State) (n : Counter)
    (h : s.writeRuns a d log w rs ws (⟨.peripheral .txTake, 0⟩ :: ts)) (hw : s.byteWaits n) :
    s.reaches 1 fun t => t.writeRuns a d log w rs ws ts ∧ t.byteDue n := by
  obtain ⟨hcall, hu⟩ := id h
  obtain ⟨⟨hf, hl, hg⟩, hb, hn⟩ := hw
  have hbus := State.writeCall_of_txbufFull s hcall hb
  have hstep := step_of_writeRuns_periph s .txTake h (by simp [State.periphEnabled, hu.configured, hb, hbus])
  have hu' := hu.next (s.takeTurn.pTxTake.latchIv 0)
  refine State.reaches_one hstep ⟨h.next hstep hu' ?_, ⟨?_, ?_, ?_⟩, ?_, ?_⟩ <;>
    simp [State.periphDo, hf, hl, hg, hn]

/-! ### The handler's turns -/

/-- Outside an aborted transaction the rule of a transmit event is the tier that `tx_remaining` selects (R66). -/
theorem transmitTier_of_exec (s v : State) (e : s.iv = Ev.txEmpty) (ha : s.aborted = false)
    (h : exec s.selectedEvent s = .next v) : s.transmitTier v := by
  simpa [State.transmitTier, e, ha] using exec_event_cases s v h

/-- The transmit tier that `tx_remaining` selects runs at once (R66, R169). -/
theorem step_of_byteDue (s : State) (n : Counter) (h : s.writeRuns a d log w rs ws (⟨.interrupt, 0⟩ :: ts))
    (hw : s.byteDue n) :
    ∃ v i, s.takeTurn.transmitTier v ∧ step s = .next ((v.noteWake i).latchIv 0) := by
  obtain ⟨hcall, hu⟩ := h
  obtain ⟨⟨hf, hl, hg⟩, ht, hn⟩ := hw
  have hx := State.turn_of_sched s _ _ hu.turns
  have hp := State.protocol_of_writeCall s hcall
  obtain ⟨hfg, hst⟩ := State.not_reserved_of_protocol s hp
  obtain ⟨hig, hiv, -⟩ := id hp
  obtain ⟨e, hc⟩ := hu.txEmpty hiv ht
  have he : s.interruptEnabled = true := by simp [State.interruptEnabled, State.inArmWindow, hg, hc, hf]
  obtain ⟨-, -, -, hevent⟩ := stepRunsTheSelectedOperation s hfg hst
  obtain ⟨t, hstep⟩ := step_next_of_protocol s hp
  obtain ⟨v, hv, ht⟩ := (andThen_eq_next _ _ _).mp ((hevent (by simp [hx]) he).symm.trans hstep)
  have ha := State.aborted_of_ignore s hig
  have htier := transmitTier_of_exec s.takeTurn v (by simpa using e) (by simpa using ha) (by simpa using hv)
  exact ⟨v, s.selectedEvent, htier, by rw [hstep, ← ht, hx]⟩

/-- `TX_ADDR` and `TX_DATA` hand over the next byte (R94, R95). -/
theorem State.writeRuns_send (s : State) (n : Counter) (h : s.writeRuns a d log w rs ws (⟨.interrupt, 0⟩ :: ts))
    (hw : s.byteDue n) (h0 : n ≠ 0) :
    s.reaches 1 fun t => t.writeRuns a d log w rs ws ts ∧ t.byteWaits (n - 1) := by
  obtain ⟨v, i, hv, hstep⟩ := step_of_byteDue s n h hw
  obtain ⟨⟨hf, hl, hg⟩, -, hn⟩ := hw
  obtain ⟨b, rfl⟩ : ∃ b, v = (s.takeTurn.writeTxbuf b).setTxRemaining (n - 1) := by
    rcases hv with ⟨-, rfl⟩ | ⟨k, rfl⟩ | ⟨k, -⟩
    · exact ⟨s.addrByte, by simp [hn]⟩
    · have h1 : n = 1 := by simpa [hn] using k
      exact ⟨s.dataByte, by simp [h1]⟩
    · exact absurd (by simpa [hn] using k) h0
  have hu := h.right.next ((((s.takeTurn.writeTxbuf b).setTxRemaining (n - 1)).noteWake i).latchIv 0)
  refine State.reaches_one hstep ⟨h.next hstep hu ?_, ⟨?_, ?_, ?_⟩, ?_, ?_⟩ <;> simp [hf, hl, hg]

/-- `TX_DONE` issues the stop, and wakes the foreground (R96). -/
theorem State.writeRuns_done (s : State) (h : s.writeRuns a d log w rs ws (⟨.interrupt, 0⟩ :: ts))
    (hw : s.byteDue 0) :
    s.reaches 1 fun t => t.writeRuns a d log w rs ws ts ∧ t.fg = Fg.wSettle ∧ t.lpm = false := by
  obtain ⟨v, i, hv, hstep⟩ := step_of_byteDue s 0 h hw
  obtain ⟨⟨hf, -, -⟩, -, hn⟩ := hw
  obtain rfl : v = s.takeTurn.issueStop.clearTxifg.clearTrIfRead.wake := by simpa [State.transmitTier, hn] using hv
  have hu := h.right.next ((s.takeTurn.issueStop.clearTxifg.clearTrIfRead.wake.noteWake i).latchIv 0)
  refine State.reaches_one hstep ⟨h.next hstep hu ?_, ?_, ?_⟩ <;> simp [hf]

/-! ### The acceptance -/

/-- The acceptance of the command starts the call on the free bus (R80). -/
theorem State.reaches_writeRuns (s : State) (hp : s.protocol) (hfree : s.free) (hf : s.fg = Fg.idle)
    (hr : s.ctl.swrst = false) (ht : s.ie.txEmpty = true) (hn : s.causePending = false)
    (hc : s.cmds = mkCmd 0 a d :: ws) (hs : s.sched = ⟨.foreground, 0⟩ :: ts) :
    s.reaches 1 fun t => t.writeRuns a d s.txLog s.wakeCount s.responses ws ts ∧ t.fg = Fg.wPoll ∧ t.lpm = false ∧
      t.ctl.txstp = false := by
  have hx := State.turn_of_sched s _ _ hs
  obtain ⟨-, -, hstp⟩ := hfree
  have hl := (State.inPhase_idle s hp.2.2 hf).left
  have ha : s.accepts (.write a d) := ⟨by simp [hx], hf, hl, hr, _, _, hc, decodeCommand_write a d⟩
  obtain ⟨t, hstep, hcall⟩ := writeAccepted s a d hp ha
  cases hstep.symm.trans (step_of_accepts s _ hp ha)
  rw [if_neg (by simp [hstp])] at hcall
  refine State.reaches_one hstep ⟨⟨hcall, ?_⟩, by simp, by simpa using hl, by simpa using hstp⟩
  refine ⟨by simpa using hr, by simpa using ht, fun c k => ?_, by simp [hc], by simp [hs]⟩
  have hk : s.causePending = true := (State.causePending_iff s).mpr ⟨c, by simpa [State.pending] using k⟩
  simp [hn] at hk

end

/-! ### The statement -/

/-- Settles O56: the eleven turns one by one, each leading to what the next one needs. -/
theorem writeReturns : Obligations.WriteReturns := by
  intro s a d ws ts hp hfree hf hr ht hn hc hs
  refine State.reaches_succ (s.reaches_writeRuns hp hfree hf hr ht hn hc hs) fun s ⟨h, hf, hl, hp⟩ => ?_
  refine State.reaches_succ (s.writeRuns_poll h hf hl hp) fun s ⟨h, hf, hl⟩ => ?_
  refine State.reaches_succ (s.writeRuns_arm h hf hl) fun s ⟨h, hf, hl, hs⟩ => ?_
  refine State.reaches_succ (s.writeRuns_sleep h hf hl hs) fun s ⟨h, hw, hs⟩ => ?_
  refine State.reaches_succ (s.writeRuns_start h hw hs) fun s ⟨h, hw⟩ => ?_
  refine State.reaches_succ (s.writeRuns_send 2 h hw (by decide)) fun s ⟨h, hw⟩ => ?_
  refine State.reaches_succ (s.writeRuns_take 1 h hw) fun s ⟨h, hw⟩ => ?_
  refine State.reaches_succ (s.writeRuns_send 1 h hw (by decide)) fun s ⟨h, hw⟩ => ?_
  refine State.reaches_succ (s.writeRuns_take 0 h hw) fun s ⟨h, hw⟩ => ?_
  refine State.reaches_succ (s.writeRuns_done h hw) fun s ⟨h, hf, hl⟩ => ?_
  exact s.writeRuns_settle h hf hl

end Sys2Proof.Machine
end

section
/-! Proofs: when a `READ` returns (R129, R130, R163), and that under `A_SETTLE_COVERS_STOP` its last stop has completed
by then (R203). -/

namespace Sys2Proof.Machine

/-- The settles at which a `READ` returns, as R129 and R163 name them. -/
theorem State.returnsRead_iff (s : State) : s.returnsRead = true ↔
    s.fg = Fg.r2Settle ∨ (s.fg = Fg.r1Settle ∧ s.par.nackPolicy = .surface ∧ s.status ≠ Status.ok) := by
  simp [State.returnsRead, State.aborted, State.surface]

theorem State.busy_of_returnsRead (s : State) (h : s.returnsRead = true) : s.fg ≠ Fg.idle := by
  rcases (State.returnsRead_iff s).mp h with e | ⟨e, -⟩ <;> simp [e]

@[simp] theorem State.returnsRead_takeTurn (s : State) : s.takeTurn.returnsRead = s.returnsRead := by
  simp [State.returnsRead]

/-- With the stop pending, `A_SETTLE_COVERS_STOP` holds the return back (R203). -/
theorem State.txstp_of_not_returnHeld (s : State) (hc : s.par.settleCoversStop = true) (hr : s.returnsRead = true)
    (hh : s.returnHeld = false) : s.ctl.txstp = false := by
  simpa [State.returnHeld, hc, hr] using hh

/-- What a returning settle does: the response, and `fg` back at `IDLE`; it neither arms nor completes (R129, R163). -/
theorem exec_position_of_returnsRead (s v : State) (hr : s.returnsRead = true)
    (h : exec (decodePosition s.fg) s = .next v) :
    v.noteWake (decodePosition s.fg) = s.respondBytes.goto Fg.idle := by
  simp only [State.returnsRead, Bool.or_eq_true, Bool.and_eq_true, decide_eq_true_eq] at hr
  rcases hr with e | ⟨e, ha⟩ <;> rw [e] at h ⊢
  · cases h
    rfl
  · cases (execR1Settle_aborted s ha).symm.trans h
    rfl

/-- A step from where a `READ` returns leaves `fg` and the response port as they are, or is the foreground's and the call
returns, its return not being held. -/
theorem step_of_returnsRead (s t : State) (hr : s.returnsRead = true) (h : step s = .next t) :
    (t.fg = s.fg ∧ t.responses = s.responses) ∨
    (s.lpm = false ∧ s.returnHeld = false ∧
      t = (s.takeTurn.respondBytes.goto Fg.idle).latchIv s.turn.ivPick) := by
  have hi := State.busy_of_returnsRead s hr
  obtain ⟨v, rfl, ⟨-, -, hf, -⟩ | ⟨-, hl, -, hh, u, hu, rfl⟩ | ⟨-, hb, -⟩ | ⟨-, -, -, rfl⟩ | ⟨-, -, u, hu, rfl⟩ |
    ⟨-, -, rfl⟩ | ⟨p, -, rfl⟩ | ⟨w, -, rfl⟩⟩ := step_outcomes s t h
  · exact absurd hf hi
  · exact .inr ⟨hl, hh, by rw [exec_position_of_returnsRead _ u (by simpa using hr) hu]⟩
  · obtain ⟨-, hf, -⟩ := (State.bootDue_iff s).mp hb
    exact absurd hf hi
  · exact .inl (by simp)
  · obtain ⟨-, ⟨-, hk⟩, -, hf, -⟩ := exec_event_keeps s.takeTurn u hu
    exact .inl (by simp [hf, hk])
  · exact .inl (by simp)
  · obtain ⟨-, ⟨-, hk⟩, -, hf, -⟩ := State.periphStep_keeps s.takeTurn p
    exact .inl (by simp [hf, hk])
  · exact .inl (by simp)

/-- Under `A_SETTLE_COVERS_STOP` it keeps the call where it is, or returns it with the stop completed (R130, R203). -/
theorem step_of_coveredReturn (s t : State) (hc : s.par.settleCoversStop = true) (hr : s.returnsRead = true)
    (h : step s = .next t) :
    (t.fg = s.fg ∧ t.fg ≠ Fg.idle ∧ t.responses = s.responses) ∨
    (s.lpm = false ∧ s.ctl.txstp = false ∧
      t = (s.takeTurn.respondBytes.goto Fg.idle).latchIv s.turn.ivPick) := by
  rcases step_of_returnsRead s t hr h with ⟨kf, kr⟩ | ⟨hl, hh, ht⟩
  · exact .inl ⟨kf, by simpa [kf] using State.busy_of_returnsRead s hr, kr⟩
  · exact .inr ⟨hl, State.txstp_of_not_returnHeld s hc hr hh, ht⟩

/-- Under the protocol, an awake `R2_SETTLE` whose stop has completed stands on a free bus (R103, R130). -/
theorem State.free_of_r2Settle (s : State) (hp : s.protocol) (hf : s.fg = Fg.r2Settle) (hl : s.lpm = false)
    (hstp : s.ctl.txstp = false) : s.free := by
  obtain ⟨-, -, hin⟩ := hp
  obtain ⟨-, hrel, -⟩ : s.direction = .read ∧ s.receiveDone := by simpa [State.inPhase, hf, hl] using hin
  exact State.free_of_released s hrel hstp

/-- Settles O53: a step keeps the call where it is, or returns it with the stop completed; under the protocol the bus is
then free, and the return does not touch it. -/
theorem stopCoveredBeforeReturn : Obligations.StopCoveredBeforeReturn := by
  refine ⟨fun s t hc hfg h => ?_, fun s t hp hc hf h => ?_⟩
  · rcases step_of_coveredReturn s t hc ((State.returnsRead_iff s).mpr hfg) h with ⟨kf, kn, kr⟩ | ⟨-, hstp, rfl⟩
    · exact ⟨fun ht => absurd ht kn, fun _ => ⟨kf, kr⟩⟩
    · simp [hstp]
  · rcases step_of_coveredReturn s t hc ((State.returnsRead_iff s).mpr (.inl hf)) h with ⟨kf, kn, kr⟩ | ⟨hl, hstp, rfl⟩
    · exact ⟨fun ht => absurd ht kn, fun _ => ⟨kf.trans hf, kr⟩⟩
    · have hfree := State.free_of_r2Settle s hp hf hl hstp
      obtain ⟨-, hbus, -⟩ := id hfree
      exact ⟨fun _ => ⟨hstp, hbus, by simpa [State.free, State.quiet] using hfree⟩, by simp [hstp]⟩

end Sys2Proof.Machine
end

section
/-! Proofs: the steps of the reference peripheral, when they are enabled and what they do (R137 to R143), and the duties of
every step towards it (R145). -/

namespace Sys2Proof.Machine

/-! ### A step that is enabled, and one that is not -/

theorem State.periphStep_of_enabled (s : State) (p : PeriphStep) (h : s.periphEnabled p = true) :
    s.periphStep p = s.periphDo p := by
  simp [State.periphStep, h]

theorem State.periphStep_of_disabled (s : State) (p : PeriphStep) (h : s.periphEnabled p = false) :
    s.periphStep p = s := by
  simp [State.periphStep, h]

/-- Software reset disables every step (R137). -/
theorem State.periphEnabled_of_swrst (s : State) (p : PeriphStep) (h : s.ctl.swrst = true) :
    s.periphEnabled p = false := by
  simp [State.periphEnabled, h]

/-- Without its condition `P_START` does nothing (R138). -/
theorem State.periphStep_start_of_disabled (s : State)
    (h : s.ctl.txstt = false ∨ s.ctl.txstp = true ∨ s.bus ≠ .busIdle) : s.periphStep .start = s := by
  apply State.periphStep_of_disabled
  rcases h with h | h | h <;> simp [State.periphEnabled, h]

/-- Without its condition `P_TX_TAKE` does nothing (R139). -/
theorem State.periphStep_txTake_of_disabled (s : State) (h : s.bus ≠ .txActive ∨ s.txbufFull = false) :
    s.periphStep .txTake = s := by
  apply State.periphStep_of_disabled
  rcases h with h | h <;> simp [State.periphEnabled, h]

/-- Without its condition `P_TX_STOP` does nothing (R140). -/
theorem State.periphStep_txStop_of_disabled (s : State)
    (h : s.bus ≠ .txActive ∨ s.ctl.txstp = false ∨ s.txbufFull = true) : s.periphStep .txStop = s := by
  apply State.periphStep_of_disabled
  rcases h with h | h | h <;> simp [State.periphEnabled, h]

/-- Without its condition `P_RX_BYTE` does nothing (R141). -/
theorem State.periphStep_rxByte_of_disabled (s : State)
    (h : s.bus ≠ .rxActive ∨ s.ifg.rxFull = true ∨ s.rxSrc = []) : s.periphStep .rxByte = s := by
  apply State.periphStep_of_disabled
  rcases h with h | h | h <;> simp [State.periphEnabled, h]

/-- Off `RxStopping` `P_RX_STOP` does nothing (R142). -/
theorem State.periphStep_rxStop_of_disabled (s : State) (h : s.bus ≠ .rxStopping) : s.periphStep .rxStop = s := by
  apply State.periphStep_of_disabled
  simp [State.periphEnabled, h]

/-- `P_RX_BYTE` delivers the first byte that the slave has to supply (R141). -/
theorem State.periphStep_rxByte_of_enabled (s : State) (v : Byte) (rest : List Byte)
    (he : s.periphEnabled .rxByte = true) (h : s.rxSrc = v :: rest) : s.periphStep .rxByte = s.deliver v rest := by
  rw [State.periphStep_of_enabled s _ he, State.periphDo, State.pRxByte, h]

/-- Out of reset an "other" event can always be raised (R143). -/
theorem State.periphStep_other (s : State) (e : OtherEvent) (h : s.ctl.swrst = false) :
    s.periphStep (.other e) = s.raiseOther e :=
  State.periphStep_of_enabled s _ (by simp [State.periphEnabled, h])

/-- Settles O38: the condition of each step enables it, and each part of its complement disables it. -/
theorem peripheralTransmitSteps : Obligations.PeripheralTransmitSteps := by
  intro s hr
  refine ⟨fun hstt hstp hbus => ?_, s.periphStep_start_of_disabled, fun hbus hfull => ?_,
    s.periphStep_txTake_of_disabled, fun hbus hstp hfull => ?_, s.periphStep_txStop_of_disabled⟩
  · exact State.periphStep_of_enabled s .start (by simp [State.periphEnabled, hr, hstt, hstp, hbus])
  · exact State.periphStep_of_enabled s .txTake (by simp [State.periphEnabled, hr, hbus, hfull])
  · exact State.periphStep_of_enabled s .txStop (by simp [State.periphEnabled, hr, hbus, hstp, hfull])

/-! ### What the peripheral's conditions read -/

/-- The conditions of R137 to R143 read the reset bit, and fields that a call reads too. -/
theorem State.periphEnabled_congr (s t : State) (p : PeriphStep) (h : s.sameCall t)
    (hr : t.ctl.swrst = s.ctl.swrst) : t.periphEnabled p = s.periphEnabled p := by
  obtain ⟨⟨-, -, -, -, -, hbus, hfull, hrx, -, -, hstt, hstp⟩, -, -, -, -, -, -, -, -, hsrc, -⟩ := h
  simp only [State.periphEnabled, hr, hbus, hfull, hrx, hstt, hstp, hsrc]

theorem State.periphBusy_congr (s t : State) (h : s.sameCall t) (hr : t.ctl.swrst = s.ctl.swrst) :
    t.periphBusy = s.periphBusy := by
  simp only [State.periphBusy, State.periphEnabled_congr s t _ h hr]

theorem State.sameCall_raiseOther (s : State) (e : OtherEvent) : s.sameCall (s.raiseOther e) := by
  simp [State.sameCall, State.samePhase, State.sameOperands]

/-- A raised cause is pending for the handler exactly when it is enabled (R143, R168). -/
theorem State.pending_raiseOther (s : State) (e : OtherEvent) : (s.raiseOther e).pending.other e = s.ie.other e := by
  cases e <;> simp [State.pending, EventBits.both, EventBits.other, EventBits.setOther]

/-- Settles O39: as O38; an "other" event writes its own flag, which no condition of the peripheral reads. -/
theorem peripheralReceiveSteps : Obligations.PeripheralReceiveSteps := by
  intro s hr
  have hother (e : OtherEvent) := State.periphStep_other s e hr
  refine ⟨fun v rest hbus hfull hsrc => ?_, s.periphStep_rxByte_of_disabled, fun hbus => ?_,
    s.periphStep_rxStop_of_disabled, hother _, hother _, hother _, hother _, fun e p => ?_, fun e => ?_⟩
  · have he : s.periphEnabled .rxByte = true := by simp [State.periphEnabled, hr, hbus, hfull, hsrc]
    rw [State.periphStep_rxByte_of_enabled s v rest he hsrc, State.deliver, hbus]
  · exact State.periphStep_of_enabled s .rxStop (by simp [State.periphEnabled, hr, hbus])
  · rw [hother]
    exact State.periphEnabled_congr s _ p (State.sameCall_raiseOther s e) (by simp)
  · rw [hother]
    exact State.pending_raiseOther s e

/-! ### Who raises a data event -/

/-- A transmit-ready event is raised by the start of a transmit and by the taking of a byte (R138, R139). -/
theorem State.periphStep_raises_txEmpty (s : State) (p : PeriphStep) (hs : s.ifg.txEmpty = false)
    (ht : (s.periphStep p).ifg.txEmpty = true) :
    (p = .start ∨ p = .txTake) ∧ (s.periphStep p).bus = .txActive := by
  cases he : s.periphEnabled p with
  | false => simp [State.periphStep_of_disabled s p he, hs] at ht
  | true =>
    cases p with
    | rxByte =>
      obtain ⟨-, -, hsrc⟩ : _ ∧ _ ∧ _ := by simpa [State.periphEnabled] using he
      obtain ⟨v, rest, hsrc⟩ := List.exists_cons_of_ne_nil hsrc
      simp [State.periphStep_rxByte_of_enabled s v rest he hsrc, hs] at ht
    | start =>
      rw [State.periphStep_of_enabled s _ he] at ht ⊢
      have htr : s.ctl.tr = true := by simpa [State.periphDo, hs] using ht
      exact ⟨.inl rfl, by simp [State.periphDo, htr]⟩
    | txTake =>
      obtain ⟨-, hbus, -⟩ : _ ∧ _ ∧ _ := by simpa [State.periphEnabled] using he
      rw [State.periphStep_of_enabled s _ he]
      exact ⟨.inr rfl, by simpa [State.periphDo] using hbus⟩
    | txStop | rxStop | other e => simp [State.periphStep_of_enabled s _ he, State.periphDo, hs] at ht

/-- A receive-ready event is raised by the delivery of a byte (R141). -/
theorem State.periphStep_raises_rxFull (s : State) (p : PeriphStep) (hs : s.ifg.rxFull = false)
    (ht : (s.periphStep p).ifg.rxFull = true) : p = .rxByte ∧ s.bus = .rxActive := by
  cases he : s.periphEnabled p with
  | false => simp [State.periphStep_of_disabled s p he, hs] at ht
  | true =>
    cases p with
    | rxByte =>
      obtain ⟨-, ⟨hbus, -⟩, -⟩ : _ ∧ (_ ∧ _) ∧ _ := by simpa [State.periphEnabled] using he
      exact ⟨rfl, hbus⟩
    | start | txTake | txStop | rxStop | other e =>
      simp [State.periphStep_of_enabled s _ he, State.periphDo, hs] at ht

/-- No data event is pending in `t` that was not in `s`. -/
def State.raisesNoData (s t : State) : Prop :=
  (t.ifg.rxFull = true → s.ifg.rxFull = true) ∧ (t.ifg.txEmpty = true → s.ifg.txEmpty = true)

/-- A handler rule acknowledges, and raises nothing (R168). -/
theorem exec_event_raisesNoData (s v : State) (h : exec s.selectedEvent s = .next v) : s.raisesNoData v := by
  rcases exec_event_cases s v h with ⟨-, -, rfl⟩ | ⟨-, -, -, ⟨-, rfl⟩ | ⟨-, rfl⟩ | ⟨-, rfl⟩⟩ | ⟨-, -, rfl⟩ |
    ⟨-, -, ⟨-, rfl⟩ | ⟨-, rfl⟩ | ⟨-, rfl⟩⟩ | ⟨-, ⟨-, rfl⟩ | ⟨-, rfl⟩⟩ | ⟨-, ⟨-, rfl⟩ | ⟨-, rfl⟩⟩ | ⟨-, rfl⟩ |
    ⟨-, rfl⟩ | ⟨-, rfl⟩ <;> simp [State.raisesNoData]

/-- No agent but the peripheral raises a data event. -/
theorem StepOutcome.raisesNoData_or_periph {s t : State} (h : StepOutcome s t) :
    s.raisesNoData t ∨
    ∃ p, s.turn.move = .peripheral p ∧ t = (s.takeTurn.periphStep p).latchIv s.turn.ivPick := by
  cases h with
  | write w ws a d ha hc hd ht => exact .inl (by simp [ht, State.raisesNoData])
  | read w ws a ha hc hd ht => exact .inl (by simp [ht, State.raisesNoData])
  | position u hm hl hi hu ht =>
    obtain ⟨hk, -⟩ := exec_position_ifg _ u (by simpa using hi) hu
    exact .inl (by simp [ht, hk, State.raisesNoData])
  | boot hm hr hf hl ht => exact .inl (by simp [ht, State.raisesNoData])
  | event u hm he hu ht => exact .inl (by simpa [ht, State.raisesNoData] using exec_event_raisesNoData _ u hu)
  | periph p hm ht => exact .inr ⟨p, hm, ht⟩
  | host w hm ht => exact .inl (by simp [ht, State.raisesNoData])
  | pass hp ht => exact .inl (by simp [ht, State.raisesNoData])

theorem StepOutcome.move_of_txEmpty {s t : State} (h : StepOutcome s t) (hs : s.ifg.txEmpty = false)
    (ht : t.ifg.txEmpty = true) :
    (s.turn.move = .peripheral .start ∨ s.turn.move = .peripheral .txTake) ∧ t.bus = .txActive := by
  rcases h.raisesNoData_or_periph with ⟨-, hk⟩ | ⟨p, hm, rfl⟩
  · simp [hk ht] at hs
  · obtain ⟨hp, hbus⟩ := State.periphStep_raises_txEmpty s.takeTurn p (by simpa using hs) (by simpa using ht)
    exact ⟨by simpa [hm] using hp, by simpa using hbus⟩

theorem StepOutcome.move_of_rxFull {s t : State} (h : StepOutcome s t) (hs : s.ifg.rxFull = false)
    (ht : t.ifg.rxFull = true) : s.turn.move = .peripheral .rxByte ∧ s.bus = .rxActive := by
  rcases h.raisesNoData_or_periph with ⟨hk, -⟩ | ⟨p, hm, rfl⟩
  · simp [hk ht] at hs
  · obtain ⟨hp, hbus⟩ := State.periphStep_raises_rxFull s.takeTurn p (by simpa using hs) (by simpa using ht)
    exact ⟨hp ▸ hm, by simpa using hbus⟩

/-- Settles O40: only the peripheral raises a data event; the reset, or the missing part of its condition, disables a
step. -/
theorem peripheralDuties : Obligations.PeripheralDuties := by
  refine ⟨fun s t h => ?_, fun s p hr => ?_, fun s => ⟨fun _ h => ?_, fun _ hbus => ⟨?_, ?_⟩, fun _ hbus => ?_⟩⟩
  · have ho := step_outcome s t h
    exact ⟨ho.move_of_txEmpty, ho.move_of_rxFull⟩
  · exact State.periphStep_of_disabled s p (State.periphEnabled_of_swrst s p hr)
  · exact State.periphStep_start_of_disabled s (.inr h)
  · exact State.periphStep_txStop_of_disabled s (.inl (by simp [hbus]))
  · exact State.periphStep_rxStop_of_disabled s (by simp [hbus])
  · exact State.periphStep_txTake_of_disabled s (.inl hbus)

end Sys2Proof.Machine
end

section
/-! Proofs: a bus that stalls hangs the foreground (R144, R176, R199, R206). While no step of R138 to R142 is taken, a
suspended foreground is not woken, and a `*_POLL` finds its stop still pending. -/

namespace Sys2Proof.Machine

/-! ### A step that cannot help -/

/-- A turn of the peripheral that is no step of R138 to R142, or comes when none is enabled, raises an "other" event or
does nothing. -/
theorem State.periphStep_of_stalled (s : State) (p : PeriphStep)
    (h : isBusStep (.peripheral p) = false ∨ s.periphBusy = false) :
    s.periphStep p = s ∨ ∃ e, s.periphStep p = s.raiseOther e := by
  cases he : s.periphEnabled p with
  | false => exact .inl (State.periphStep_of_disabled s p he)
  | true =>
    cases p with
    | other e => exact .inr ⟨e, State.periphStep_of_enabled s _ he⟩
    | start | txTake | txStop | rxByte | rxStop => simp [isBusStep, State.periphBusy, he] at h

/-- `IV` reports no data class whose flag is clear (R33). -/
theorem State.iv_ne_rxFull (s : State) (hiv : s.ivConsistent = true) (h : s.ifg.rxFull = false) : s.iv ≠ Ev.rxFull :=
  fun e => by simp [(State.data_flag_of_iv s hiv).1 e] at h

theorem State.iv_ne_txEmpty (s : State) (hiv : s.ivConsistent = true) (h : s.ifg.txEmpty = false) :
    s.iv ≠ Ev.txEmpty :=
  fun e => by simp [(State.data_flag_of_iv s hiv).2 e] at h

/-- Off the reserved codes a step goes on unless a receive event is to be handled (R41, R180). -/
theorem step_next_of_iv_ne_rxFull (s : State) (hf : fgReserved s.fg = false) (hs : s.statusReserved = false)
    (hiv : s.iv ≠ Ev.rxFull) : ∃ t, step s = .next t := by
  rcases step_next_or_overrun s hf hs with ht | ⟨hm, -, ht⟩
  · exact ht
  · obtain ⟨-, -, -, hevent⟩ := stepRunsTheSelectedOperation s hf hs
    obtain ⟨-, -, hpass, -⟩ := stepWithoutOperation.2 s hf hs
    cases he : s.interruptEnabled with
    | false => exact ⟨_, hpass hm he⟩
    | true =>
      obtain ⟨v, hv⟩ := exec_next s.selectedEvent s.takeTurn (Instr.wf_decodeEvent _ _ _)
        fun e => absurd (Code.event.inj ((encode_decodeEvent _ _ _).symm.trans e)) hiv
      exact ⟨_, by rw [hevent hm he, hv, andThen_next]⟩

/-! ### The suspended foreground -/

/-- Without a data event to handle, a suspended foreground and the peripheral's conditions are out of every agent's reach
but for the steps of R138 to R142. -/
theorem StepOutcome.sameCall_of_stalled {s t : State} (h : StepOutcome s t) (hp : s.par.nackPolicy = .ignore)
    (hl : s.lpm = true) (hr : s.iv ≠ Ev.rxFull) (ht : s.iv ≠ Ev.txEmpty)
    (hm : isBusStep s.turn.move = false ∨ s.periphBusy = false) :
    s.sameCall t ∧ t.ctl.swrst = s.ctl.swrst := by
  cases h with
  | write w ws a d ha hc hd e =>
    obtain ⟨-, -, k, -⟩ := ha
    simp [hl] at k
  | read w ws a ha hc hd e =>
    obtain ⟨-, -, k, -⟩ := ha
    simp [hl] at k
  | position u _ k hi hu e => simp [hl] at k
  | boot _ _ hf k e => simp [hl] at k
  | event u _ he hu e =>
    obtain ⟨⟨-, hrst, -⟩, -⟩ := exec_event_keeps _ u hu
    rcases exec_event_tier_or_sameCall _ u (by simpa using hp) hu with ⟨k, -⟩ | ⟨k, -⟩ | hk
    · exact absurd (by simpa using k) hr
    · exact absurd (by simpa using k) ht
    · exact ⟨by simpa [e, State.sameCall, State.samePhase, State.sameOperands] using hk, by simpa [e] using hrst⟩
  | periph p hmove e =>
    have hb : s.takeTurn.periphBusy = s.periphBusy := State.periphBusy_congr s _ (State.sameCall_takeTurn s) (by simp)
    rcases State.periphStep_of_stalled s.takeTurn p (by simpa [hmove, hb] using hm) with k | ⟨x, k⟩ <;>
      simp [e, k, State.sameCall, State.samePhase, State.sameOperands]
  | host w _ e => simp [e, State.sameCall, State.samePhase, State.sameOperands]
  | pass _ e => simp [e, State.sameCall, State.samePhase, State.sameOperands]

/-! ### The poll -/

theorem State.polling_iff (s : State) :
    s.polling = true ↔ s.lpm = false ∧ (s.fg = Fg.wPoll ∨ s.fg = Fg.r1Poll ∨ s.fg = Fg.r2Poll) := by
  simp [State.polling, or_assoc]

theorem State.unreserved_of_polling (s : State) (h : s.polling = true) : s.fg ≠ Fg.idle ∧ fgReserved s.fg = false := by
  obtain ⟨-, e | e | e⟩ := (State.polling_iff s).mp h <;> rw [e] <;> decide

/-- With the stop pending a `*_POLL` stays where it is (R111, R121, R126). -/
theorem exec_position_of_polling (s v : State) (hp : s.polling = true) (hs : s.ctl.txstp = true)
    (h : exec (decodePosition s.fg) s = .next v) : v = s.goto s.fg := by
  have hpoll (x y : FgCode) (hx : s.poll x y = .next v) : v = s.goto x := by
    rw [State.poll_eq, hs] at hx
    cases hx
    rfl
  obtain ⟨-, e | e | e⟩ := (State.polling_iff s).mp hp <;> rw [e] at h ⊢ <;> exact hpoll _ _ h

/-- A handler rule may issue a stop, and completes none (R174). -/
theorem exec_event_txstp (s v : State) (h : exec s.selectedEvent s = .next v) (hs : s.ctl.txstp = true) :
    v.ctl.txstp = true := by
  rcases exec_event_cases s v h with ⟨-, -, rfl⟩ | ⟨-, -, -, ⟨-, rfl⟩ | ⟨-, rfl⟩ | ⟨-, rfl⟩⟩ | ⟨-, -, rfl⟩ |
    ⟨-, -, ⟨-, rfl⟩ | ⟨-, rfl⟩ | ⟨-, rfl⟩⟩ | ⟨-, ⟨-, rfl⟩ | ⟨-, rfl⟩⟩ | ⟨-, ⟨-, rfl⟩ | ⟨-, rfl⟩⟩ | ⟨-, rfl⟩ |
    ⟨-, rfl⟩ | ⟨-, rfl⟩ <;> simp [hs]

/-- Through every step but those of R138 to R142 a `*_POLL` repeats, its stop pending. -/
theorem StepOutcome.polls {s t : State} (h : StepOutcome s t) (hp : s.polling = true) (hs : s.ctl.txstp = true)
    (hm : isBusStep s.turn.move = false) : t.fg = s.fg ∧ t.lpm = false ∧ t.ctl.txstp = true := by
  obtain ⟨hl, -⟩ := (State.polling_iff s).mp hp
  obtain ⟨hi, -⟩ := State.unreserved_of_polling s hp
  cases h with
  | write w ws a d ha hc hd ht =>
    obtain ⟨-, hf, -⟩ := ha
    exact absurd hf hi
  | read w ws a ha hc hd ht =>
    obtain ⟨-, hf, -⟩ := ha
    exact absurd hf hi
  | position u _ _ _ hu ht =>
    have hk := exec_position_of_polling _ u (by simpa [State.polling] using hp) (by simpa using hs) hu
    simp [ht, hk, hl, hs]
  | boot _ _ hf _ ht => exact absurd hf hi
  | event u _ _ hu ht =>
    obtain ⟨hf, -⟩ := exec_event_frame _ u hu
    have hlu := exec_event_lpm _ u hu
    have hsu := exec_event_txstp _ u hu (by simpa using hs)
    simp [ht, hf, hlu, hsu, hl]
  | periph p hmove ht =>
    rcases State.periphStep_of_stalled s.takeTurn p (.inl (by simpa [hmove] using hm)) with k | ⟨x, k⟩ <;>
      simp [ht, k, hl, hs]
  | host w _ ht => simp [ht, hl, hs]
  | pass _ ht => simp [ht, hl, hs]

/-- No step brings the reserved code into `status` where it exists (R25, R180). -/
theorem step_statusReserved (s t : State) (h : step s = .next t) (hs : s.statusReserved = false) :
    t.statusReserved = false := by
  obtain ⟨hpar, -⟩ := configurationWrittenOnce s t h
  rw [← Bool.not_eq_true, State.statusReserved_iff] at hs ⊢
  rw [hpar]
  exact fun ⟨hp, ht⟩ => (step_outcome s t h).status_ne_reserved (fun e => hs ⟨hp, e⟩) ht

/-! ### The statement -/

/-- Settles O52: what is left of the steps can neither wake the foreground nor complete the stop. -/
theorem stalledBusHangs : Obligations.StalledBusHangs := by
  refine ⟨fun s hp hf hiv hl hrx htx hm => ?_, fun s hpoll hstp hst hiv hrx hm => ?_⟩
  · have hr := State.iv_ne_rxFull s hiv hrx
    obtain ⟨t, h⟩ := step_next_of_iv_ne_rxFull s hf (State.statusReserved_of_ignore s hp) hr
    obtain ⟨hk, hrst⟩ :=
      (step_outcome s t h).sameCall_of_stalled hp hl hr (State.iv_ne_txEmpty s hiv htx) hm
    obtain ⟨⟨kfg, kl, -, -, -, -, -, krx, ktx, -⟩, -, kpar, -, kwake, -⟩ := id hk
    exact ⟨t, h, kpar, kfg, kl.trans hl, kwake, step_ivConsistent s t h, krx.trans hrx, ktx.trans htx,
      State.periphBusy_congr s t hk hrst⟩
  · obtain ⟨-, hf⟩ := State.unreserved_of_polling s hpoll
    obtain ⟨t, h⟩ := step_next_of_iv_ne_rxFull s hf hst (State.iv_ne_rxFull s hiv hrx)
    have ho := step_outcome s t h
    obtain ⟨kfg, kl, kstp⟩ := ho.polls hpoll hstp hm
    obtain ⟨-, hfg⟩ := (State.polling_iff s).mp hpoll
    have krx : t.ifg.rxFull = false := eq_false_of_ne_true fun k => by
      obtain ⟨hmove, -⟩ := ho.move_of_rxFull hrx k
      simp [hmove, isBusStep] at hm
    exact ⟨t, h, kfg, (State.polling_iff t).mpr ⟨kl, kfg ▸ hfg⟩, kstp, step_statusReserved s t h hst,
      step_ivConsistent s t h, krx⟩

end Sys2Proof.Machine
end

section
/-! Proofs: under `A_NO_EARLY_EVENT` no completing tier runs between an `*_ARM` and its `*_SLEEP`, so the wake-up comes
after the foreground has gone to sleep (R169, R197). -/

namespace Sys2Proof.Machine

/-! ### When an invocation is enabled -/

theorem State.dataEvent_iff (s : State) : s.dataEvent = true ↔ s.iv = Ev.rxFull ∨ s.iv = Ev.txEmpty := by
  simp [State.dataEvent]

theorem State.causePending_iff_flag (s : State) :
    s.causePending = true ↔ ∃ c, s.ifg.has c = true ∧ s.ie.has c = true := by
  simp only [State.causePending_iff, State.has_pending_iff]

/-- The conditions of R169, each as the reader of the state sees it. -/
theorem State.interruptEnabled_iff (s : State) :
    s.interruptEnabled = true ↔ s.gie = true ∧ (∃ c, s.ifg.has c = true ∧ s.ie.has c = true) ∧
      ¬ (s.par.noEarlyEvent = true ∧ s.inArmWindow = true ∧ s.dataEvent = true) := by
  rw [← State.causePending_iff_flag]
  simp [State.interruptEnabled, and_assoc, or_iff_not_imp_left]

/-- Settles O34: without the assumption its clause holds of itself; with it, it names the window and the data events. -/
theorem invocationEnabled : Obligations.InvocationEnabled := by
  intro s
  rw [State.interruptEnabled_iff, State.inArmWindow_iff, State.dataEvent_iff]
  exact ⟨fun hn => by simp [hn], fun hn => by simp only [hn, true_and]⟩

/-- Under `A_NO_EARLY_EVENT` an invocation before the `*_SLEEP` is for an "other" cause, which completes nothing. -/
theorem State.completesOwn_of_noEarlyEvent (s : State) (hn : s.par.noEarlyEvent = true) (hw : s.inArmWindow = true)
    (he : s.interruptEnabled = true) : s.completesOwn = false := by
  obtain ⟨-, -, hd⟩ := s.interruptEnabled_iff.mp he
  obtain ⟨hr, ht⟩ := not_or.mp (mt s.dataEvent_iff.mpr fun k => hd ⟨hn, hw, k⟩)
  obtain ⟨htx, hrx⟩ := s.selectedEvent_of_other hr ht
  simp [State.completesOwn, htx, hrx]

/-! ### Reaching the place between `*_ARM` and `*_SLEEP`, and staying there -/

/-- Under the protocol a step that leads before a `*_SLEEP` is the `*_ARM`, or the turn of another agent. -/
theorem ArmedOutcome.atArm_or_stays {s t : State} (h : ArmedOutcome s t) (hp : s.protocol)
    (hw : t.inArmWindow = true) :
    (s.turn.move = .foreground ∧ s.lpm = false ∧ s.atArm) ∨ (s.turn.move ≠ .foreground ∧ s.inArmWindow = true) := by
  cases h with
  | arms hm hl ha => exact .inl ⟨hm, hl, ha⟩
  | suspends _ _ _ _ hn => simp [hn] at hw
  | outside _ _ _ _ _ hn => simp [hn] at hw
  | handles hm _ hf => exact .inr ⟨by simp [hm], State.inArmWindow_congr s t hf ▸ hw⟩
  | keeps _ ho hf =>
    have hs : s.inArmWindow = true := State.inArmWindow_congr s t hf ▸ hw
    obtain ⟨-, -, hin⟩ := hp
    obtain ⟨hl, -⟩ := s.inPhase_inArmWindow hin hs
    refine .inr ⟨fun hm => ?_, hs⟩
    obtain ⟨-, hn⟩ := ho hm hl
    simp [hn] at hs

/-- Settles O50: the `*_ARM` starts its transaction, and the one step that could end it before the `*_SLEEP`, the
handler's completing tier, is disabled. -/
theorem noLostWakeUpUnderAssumption : Obligations.NoLostWakeUpUnderAssumption := by
  intro s hp hn hs
  obtain ⟨t, h⟩ := step_next_of_protocol s hp
  refine ⟨t, h, protocol_step s t h hp, fun hwt => ?_⟩
  rcases (step_armedOutcome s t h).atArm_or_stays hp hwt with ⟨hm, hl, ha⟩ | ⟨hm, hw⟩
  · exact step_atArm_goesOn s t h hp hm hl ha
  · exact (step_inArmWindow_goesOn s t h hp hw hm).mpr
      ⟨hs hw, fun _ he => s.completesOwn_of_noEarlyEvent hn hw he⟩

end Sys2Proof.Machine
end

section
/-! Proofs: what `NACK_POLICY = Surface` puts in the place of the rules of R91 to R98 (R164 to R166). -/

namespace Sys2Proof.Machine

/-! ### The error events -/

theorem State.surfacesError_iff (s : State) :
    s.surfacesError = true ↔ s.par.nackPolicy = .surface ∧ s.lpm = true ∧ s.status = Status.ok := by
  simp [State.surfacesError, State.surface, and_assoc]

/-- `EV_NACK` where the error surfaces: abort and wake (R164). -/
theorem execEvNack_surfaces (s : State) (h : s.surfacesError = true) :
    execEvNack s = .next ((s.ackOther .nack).setStatus Status.nack).issueStop.clearTxifg.wake := by
  simp [execEvNack, h]

/-- `EV_ARB_LOST` where the error surfaces: wake without a stop (R165). -/
theorem execEvArbLost_surfaces (s : State) (h : s.surfacesError = true) :
    execEvArbLost s = .next ((s.ackOther .arbLost).setStatus Status.arbLost).wake := by
  simp [execEvArbLost, h]

/-- `wake()` of a suspended foreground, as one update (R172). -/
theorem State.wake_of_asleep (s : State) (h : s.lpm = true) :
    s.wake = { s with lpm := false, wakeCount := s.wakeCount + 1 } := by
  simp [State.wake, h]

/-- Settles O20: with the foreground asleep and `status` still `Ok` the error surfaces, otherwise it is acknowledged
alone. -/
theorem surfaceErrorEvents : Obligations.SurfaceErrorEvents := by
  refine fun s hp => ⟨fun hl hst => ?_, fun hn => ?_⟩
  · have hk := s.surfacesError_iff.mpr ⟨hp, hl, hst⟩
    refine ⟨(execEvNack_surfaces s hk).trans ?_, (execEvArbLost_surfaces s hk).trans ?_⟩ <;>
      simp [State.wake_of_asleep, hl, EventBits.setOther]
  · have hk : s.surfacesError = false := eq_false_of_ne_true fun k => by
      obtain ⟨-, hl, hst⟩ := s.surfacesError_iff.mp k
      simp [hl, hst] at hn
    exact ⟨execEvNack_acks s hk, execEvArbLost_acks s hk⟩

/-! ### The data tiers -/

/-- A transmit tier of an aborted transaction clears its flag and sends nothing (R166). -/
theorem exec_tx_of_aborted (i : Instr) (s : State) (hi : i = .txAddr ∨ i = .txData ∨ i = .txDone)
    (ha : s.aborted = true) : exec i s = .next s.clearTxifg := by
  rcases hi with rfl | rfl | rfl
  exacts [execTxAddr_aborted s ha, execTxData_aborted s ha, execTxDone_aborted s ha]

/-- The same state under other parameters. -/
def State.setPar (s : State) (p : Params) : State := { s with par := p }

/-- Off an aborted transaction a receive tier reads no parameter (R91 to R93). -/
theorem exec_rx_setPar (i : Instr) (s : State) (p : Params) (hi : i = .rxCont ∨ i = .rxPenult ∨ i = .rxLast)
    (ha : s.aborted = false) (hp : (s.setPar p).aborted = false) :
    exec i (s.setPar p) = andThen (exec i s) fun t => .next (t.setPar p) := by
  by_cases hc : s.rxCursor = 3
  · obtain ⟨h1, h2, h3⟩ := execRx_overrun s ha hc
    obtain ⟨k1, k2, k3⟩ := execRx_overrun (s.setPar p) hp hc
    rcases hi with rfl | rfl | rfl
    · rw [exec, k1, exec, h1, andThen_fault]
    · rw [exec, k2, exec, h2, andThen_fault]
    · rw [exec, k3, exec, h3, andThen_fault]
  · rcases hi with rfl | rfl | rfl
    · rw [exec, execRxCont_stores _ hp hc, exec, execRxCont_stores s ha hc]
      rfl
    · rw [exec, execRxPenult_stores _ hp hc, exec, execRxPenult_stores s ha hc]
      rfl
    · rw [exec, execRxLast_stores _ hp hc, exec, execRxLast_stores s ha hc]
      simp only [State.finishCount_eq, State.wake_eq]
      rfl

/-- And a transmit tier reads none either (R94 to R96). -/
theorem exec_tx_setPar (i : Instr) (s : State) (p : Params) (hi : i = .txAddr ∨ i = .txData ∨ i = .txDone)
    (ha : s.aborted = false) (hp : (s.setPar p).aborted = false) :
    exec i (s.setPar p) = andThen (exec i s) fun t => .next (t.setPar p) := by
  rcases hi with rfl | rfl | rfl
  · rw [exec, execTxAddr_sends _ hp, exec, execTxAddr_sends s ha]
    rfl
  · rw [exec, execTxData_sends _ hp, exec, execTxData_sends s ha]
    rfl
  · rw [exec, execTxDone_stops _ hp, exec, execTxDone_stops s ha]
    simp only [State.clearTrIfRead_eq, State.wake_eq]
    rfl

/-- Settles O21: with `status` other than `Ok` the guard discards; with `Ok` no transaction is aborted under either
policy, and the tiers read no parameter. -/
theorem abortedTransactionGuard : Obligations.AbortedTransactionGuard := by
  refine fun s hp => ⟨fun hst => ?_, fun hok i hi => ?_⟩
  · have ha : s.aborted = true := by simpa [State.aborted, State.surface, hp] using hst
    refine ⟨fun i hi => exec_rx_of_aborted i s ?_ ha, fun i hi => exec_tx_of_aborted i s hi ha⟩
    rcases hi with rfl | rfl | rfl <;> rfl
  · have ha := State.aborted_of_ignore_or_ok s (.inr hok)
    have hg := State.aborted_of_ignore_or_ok { s with par := { s.par with nackPolicy := .ignore } } (.inl rfl)
    rcases or_assoc.mpr (or_assoc.mpr hi) with hi | hi
    · exact exec_rx_setPar i _ s.par (or_assoc.mp hi) hg ha
    · exact exec_tx_setPar i _ s.par hi hg ha

end Sys2Proof.Machine
end

section
/-! Proofs: the code of an "other" cause (R62). -/

namespace Sys2Proof

/-- The event code that reports the cause. -/
def OtherEvent.code (e : OtherEvent) : EventCode :=
  match e with
  | .arbLost => Ev.arbLost
  | .nack => Ev.nack
  | .start => Ev.start
  | .stop => Ev.stop

end Sys2Proof
end

section
/-! Proofs: the flags are raised by the peripheral and lowered by the handler (R47, R168). -/

namespace Sys2Proof.Machine

/-! ### A flag that is cleared -/

theorem EventBits.has_clear_rxFull (b : EventBits) (c : EventCode)
    (h : EventBits.has { b with rxFull := false } c = true) : b.has c = true ∧ c ≠ Ev.rxFull := by
  rcases EventCode.cases c with rfl | rfl | rfl | rfl | rfl | rfl | rfl | rfl <;> simp_all [EventBits.has]

theorem EventBits.has_clear_txEmpty (b : EventBits) (c : EventCode)
    (h : EventBits.has { b with txEmpty := false } c = true) : b.has c = true ∧ c ≠ Ev.txEmpty := by
  rcases EventCode.cases c with rfl | rfl | rfl | rfl | rfl | rfl | rfl | rfl <;> simp_all [EventBits.has]

theorem EventBits.has_clear_other (b : EventBits) (e : OtherEvent) (c : EventCode)
    (h : (b.setOther e false).has c = true) : b.has c = true ∧ c ≠ e.code := by
  rcases EventCode.cases c with rfl | rfl | rfl | rfl | rfl | rfl | rfl | rfl <;> cases e <;>
    simp_all [EventBits.has, EventBits.setOther, OtherEvent.code]

/-- The codes without a cause name no bit (R62). -/
theorem EventBits.has_of_no_cause (b : EventBits) (c : EventCode) (h : c = Ev.none ∨ c = Ev.reserved) :
    b.has c = false := by
  rcases h with rfl | rfl <;> rfl

/-! ### The handler -/

/-- What a handler rule makes of the flags: it clears that of its own cause, and `EV_NACK` that surfaces clears
`IFG.tx_empty` too (R47, R164). -/
theorem exec_event_ifg (s v : State) (h : exec s.selectedEvent s = .next v) :
    (s.iv = Ev.rxFull ∧ v.ifg = { s.ifg with rxFull := false }) ∨
    (s.iv = Ev.txEmpty ∧ v.ifg = { s.ifg with txEmpty := false }) ∨
    (∃ e : OtherEvent, s.iv = e.code ∧
      (v.ifg = s.ifg.setOther e false ∨ v.ifg = { s.ifg.setOther e false with txEmpty := false })) ∨
    ((s.iv = Ev.none ∨ s.iv = Ev.reserved) ∧ v.ifg = s.ifg) := by
  rcases exec_event_cases s v h with ⟨e, -, rfl⟩ | ⟨e, -, -, ⟨-, rfl⟩ | ⟨-, rfl⟩ | ⟨-, rfl⟩⟩ | ⟨e, -, rfl⟩ |
    ⟨e, -, ⟨-, rfl⟩ | ⟨-, rfl⟩ | ⟨-, rfl⟩⟩ | ⟨e, ⟨-, rfl⟩ | ⟨-, rfl⟩⟩ | ⟨e, ⟨-, rfl⟩ | ⟨-, rfl⟩⟩ | ⟨e, rfl⟩ |
    ⟨e, rfl⟩ | ⟨e, rfl⟩
  iterate 4 exact .inl ⟨e, by simp⟩
  iterate 4 exact .inr (.inl ⟨e, by simp⟩)
  · exact .inr (.inr (.inl ⟨.arbLost, e, .inl (by simp)⟩))
  · exact .inr (.inr (.inl ⟨.arbLost, e, .inl (by simp)⟩))
  · exact .inr (.inr (.inl ⟨.nack, e, .inr (by simp)⟩))
  · exact .inr (.inr (.inl ⟨.nack, e, .inl (by simp)⟩))
  · exact .inr (.inr (.inl ⟨.start, e, .inl (by simp)⟩))
  · exact .inr (.inr (.inl ⟨.stop, e, .inl (by simp)⟩))
  · exact .inr (.inr (.inr ⟨e, rfl⟩))

/-- A cause pending after a handler rule was pending before it, and is not the one handled (R168). -/
theorem exec_event_has (s v : State) (h : exec s.selectedEvent s = .next v) (c : EventCode)
    (hc : v.ifg.has c = true) : s.ifg.has c = true ∧ c ≠ s.iv := by
  rcases exec_event_ifg s v h with ⟨e, k⟩ | ⟨e, k⟩ | ⟨x, e, k | k⟩ | ⟨e, k⟩ <;> rw [k] at hc
  · exact e ▸ EventBits.has_clear_rxFull _ c hc
  · exact e ▸ EventBits.has_clear_txEmpty _ c hc
  · exact e ▸ EventBits.has_clear_other _ x c hc
  · obtain ⟨hx, -⟩ := EventBits.has_clear_txEmpty _ c hc
    exact e ▸ EventBits.has_clear_other _ x c hx
  · refine ⟨hc, fun he => ?_⟩
    simp [EventBits.has_of_no_cause _ c (he ▸ e)] at hc

/-- The handler's turn runs the selected rule if it is enabled, and passes if not (R169). -/
theorem StepOutcome.interrupt_cases {s t : State} (h : StepOutcome s t) (hm : s.turn.move = .interrupt) :
    (s.interruptEnabled = true ∧ ∃ u, exec s.takeTurn.selectedEvent s.takeTurn = .next u ∧
      t = (u.noteWake s.takeTurn.selectedEvent).latchIv s.turn.ivPick) ∨
    (s.interruptEnabled = false ∧ t = s.takeTurn.latchIv s.turn.ivPick) := by
  cases he : s.interruptEnabled with
  | false => exact .inr ⟨rfl, h.passes (.inr ⟨hm, he⟩)⟩
  | true =>
    cases h with
    | event u _ _ hu ht => exact .inl ⟨rfl, u, hu, ht⟩
    | write w ws a d ha =>
      obtain ⟨hf, -⟩ := ha
      simp [hf] at hm
    | read w ws a ha =>
      obtain ⟨hf, -⟩ := ha
      simp [hf] at hm
    | position _ hf => simp [hf] at hm
    | boot hf => simp [hf] at hm
    | periph _ hf => simp [hf] at hm
    | host _ hf => simp [hf] at hm
    | pass hp => simp [hm, he] at hp

/-! ### Over every step -/

/-- Off the peripheral's turns and the handler's, no flag changes (R32, R168). -/
theorem StepOutcome.ifg_eq {s t : State} (h : StepOutcome s t) (hi : s.turn.move ≠ .interrupt)
    (hp : ∀ p, s.turn.move ≠ .peripheral p) : t.ifg = s.ifg := by
  cases h with
  | write w ws a d ha hc hd ht => simp [ht]
  | read w ws a ha hc hd ht => simp [ht]
  | position u hm hl hn hu ht =>
    obtain ⟨hk, -⟩ := exec_position_ifg _ u (by simpa using hn) hu
    simp [ht, hk]
  | boot hm hr hf hl ht => simp [ht]
  | event u hm he hu ht => exact absurd hm hi
  | periph p hm ht => exact absurd hm (hp p)
  | host w hm ht => simp [ht]
  | pass hm ht => simp [ht]

/-- A handler's turn raises no flag, and an enabled one leaves the flag of the cause reported at 0. -/
theorem StepOutcome.interrupt_has {s t : State} (h : StepOutcome s t) (hm : s.turn.move = .interrupt) (c : EventCode)
    (hc : t.ifg.has c = true) : s.ifg.has c = true ∧ (s.interruptEnabled = true → c ≠ s.iv) := by
  rcases h.interrupt_cases hm with ⟨-, u, hu, rfl⟩ | ⟨he, rfl⟩
  · obtain ⟨hs, hn⟩ := exec_event_has _ u hu c (by simpa using hc)
    exact ⟨by simpa using hs, fun _ => by simpa using hn⟩
  · exact ⟨by simpa using hc, by simp [he]⟩

/-- Settles O36: the handler's turn is the only one, off the peripheral's, that touches a flag. -/
theorem handledCauseCleared : Obligations.HandledCauseCleared := by
  intro s t h
  have ho := step_outcome s t h
  refine ⟨fun c hc => ?_, fun hm he => eq_false_of_ne_true fun hc => ?_⟩
  · by_cases hm : s.turn.move = .interrupt
    · obtain ⟨hs, -⟩ := ho.interrupt_has hm c hc
      exact .inl hs
    · by_cases hp : ∃ p, s.turn.move = .peripheral p
      · exact .inr hp
      · exact .inl (ho.ifg_eq hm (not_exists.mp hp) ▸ hc)
  · obtain ⟨-, hn⟩ := ho.interrupt_has hm s.iv hc
    exact hn he rfl

end Sys2Proof.Machine
end

section
/-! Proofs: what the handler and what the configured foreground leave unwritten (R22, R24, R171, R174). -/

namespace Sys2Proof.Machine

/-! ### The handler -/

/-- A handler rule leaves the bus, the byte received and what the slave has to supply alone, and may clear
the transmitter direction (R174). -/
theorem exec_event_bus (s v : State) (h : exec s.selectedEvent s = .next v) :
    v.rxbuf = s.rxbuf ∧ v.bus = s.bus ∧ v.rxSrc = s.rxSrc ∧ v.txLog = s.txLog ∧
    (v.ctl.tr = true → s.ctl.tr = true) := by
  rcases exec_event_cases s v h with ⟨-, -, rfl⟩ | ⟨-, -, -, ⟨-, rfl⟩ | ⟨-, rfl⟩ | ⟨-, rfl⟩⟩ | ⟨-, -, rfl⟩ |
    ⟨-, -, ⟨-, rfl⟩ | ⟨-, rfl⟩ | ⟨-, rfl⟩⟩ | ⟨-, ⟨-, rfl⟩ | ⟨-, rfl⟩⟩ | ⟨-, ⟨-, rfl⟩ | ⟨-, rfl⟩⟩ | ⟨-, rfl⟩ |
    ⟨-, rfl⟩ | ⟨-, rfl⟩ <;> simp +contextual

/-- Settles O28: the frame of the rule that runs; a handler that is not enabled changes nothing named. -/
theorem handlerFrame : Obligations.HandlerFrame := by
  intro s t hm h
  rcases (step_outcome s t h).interrupt_cases hm with ⟨-, u, hu, rfl⟩ | ⟨-, rfl⟩
  · obtain ⟨⟨-, hrst, hmst, hmode, hsync, hclk, hbr, hsa, hie⟩, ⟨hcmds, hresp⟩, ⟨hdir, haddr, hdata⟩, hfg, hgie,
      hstt⟩ := exec_event_keeps _ u hu
    obtain ⟨hrxbuf, hbus, hsrc, hlog, htr⟩ := exec_event_bus _ u hu
    have hstp : s.ctl.txstp = true → u.ctl.txstp = true := by simpa using exec_event_txstp _ u hu
    have hlpm : u.lpm = true → s.lpm = true := by simp +contextual [exec_event_lpm _ u hu]
    have hifg (c : EventCode) (hc : u.ifg.has c = true) : s.ifg.has c = true := by
      obtain ⟨hk, -⟩ := exec_event_has _ u hu c hc
      simpa using hk
    simpa [hrst, hmst, hmode, hsync, hclk, hbr, hsa, hie, hcmds, hresp, hdir, haddr, hdata, hfg, hgie, hstt, hrxbuf,
      hbus, hsrc, hlog] using And.intro htr ⟨hstp, hlpm, hifg⟩
  · simp

/-! ### The foreground -/

/-- A micro-operation leaves the data registers and the bus alone, completes no stop, and clears neither the transmitter
direction nor a start request (R174). -/
theorem exec_position_bus (s v : State) (hi : s.fg ≠ Fg.idle) (h : exec (decodePosition s.fg) s = .next v) :
    v.txbuf = s.txbuf ∧ v.txbufFull = s.txbufFull ∧ v.rxbuf = s.rxbuf ∧ v.bus = s.bus ∧ v.rxSrc = s.rxSrc ∧
    v.txLog = s.txLog ∧ v.ctl.txstp = s.ctl.txstp ∧ (s.ctl.tr = true → v.ctl.tr = true) ∧
    (s.ctl.txstt = true → v.ctl.txstt = true) := by
  rcases exec_position_cases s v hi h with ⟨-, rfl⟩ | ⟨-, rfl⟩ | ⟨-, rfl⟩ | ⟨-, rfl⟩ | ⟨-, rfl⟩ | ⟨-, rfl⟩ | ⟨-, rfl⟩ |
    ⟨-, -, rfl⟩ | ⟨-, -, rfl⟩ | ⟨-, rfl⟩ | ⟨-, rfl⟩ | ⟨-, rfl⟩ | ⟨-, rfl⟩ | ⟨-, rfl⟩ <;> simp

/-- Settles O29: an accepted command writes TransactionState, `status` and `fg`; a micro-operation has its own frame;
out of reset there is no `CONFIG`. -/
theorem foregroundFrame : Obligations.ForegroundFrame := by
  intro s t hm hr h
  cases step_outcome s t h with
  | write w ws a d ha hc hd ht => simp [ht]
  | read w ws a ha hc hd ht => simp [ht]
  | position u _ hl hi hu ht =>
    have hi : s.takeTurn.fg ≠ Fg.idle := by simpa using hi
    obtain ⟨⟨-, hrst, hmst, hmode, hsync, hclk, hbr, hsa, hie⟩, -, -, hwake⟩ := exec_position_keeps _ u hi hu
    obtain ⟨htxbuf, hfull, hrxbuf, hbus, hsrc, hlog, hstp, htr, hstt⟩ := exec_position_bus _ u hi hu
    obtain ⟨-, -, hbuf, -⟩ := exec_position_transaction _ u hi hu
    obtain ⟨hifg, -⟩ := exec_position_ifg _ u hi hu
    obtain ⟨hgie, -⟩ := interruptEnableRule s t h
    simp only [ht, State.latchIv_fields, State.noteWake_fields, State.takeTurn_fields] at htr hstt hgie
    simpa [ht, hrst, hmst, hmode, hsync, hclk, hbr, hsa, hie, hwake, htxbuf, hfull, hrxbuf, hbus, hsrc, hlog, hstp,
      hbuf, hifg, hl] using And.intro htr ⟨hstt, hgie⟩
  | boot _ hb hf hl ht => simp [hr] at hb
  | event u hf he hu ht => simp [hm] at hf
  | periph p hf ht => simp [hm] at hf
  | host w hf ht => simp [hm] at hf
  | pass hf ht => simp [ht]

end Sys2Proof.Machine
end

section
/-! Proofs: the foreground turn that ends the reset, and what it leads to (R190, R192, R193). -/

namespace Sys2Proof.Machine

/-- No operation is fetched while the boot sequence is still to run (R192). -/
theorem State.fetch_foreground_boot (s : State) (h : s.bootDue = true) : s.fetch .foreground = none := by
  obtain ⟨hr, hf, hl⟩ := (State.bootDue_iff s).mp h
  simp [State.fetch, State.fetchForeground, hl, hf, hr]

/-- The foreground's turn then is `CONFIG` (R192). -/
theorem State.environment_foreground_boot (s : State) (h : s.bootDue = true) :
    s.environment .foreground = s.bootConfig := by
  simp [State.environment, h]

/-- The step of a foreground turn in software reset, by the name of its operation (R192). -/
theorem step_of_bootDue (s : State) (hb : s.bootDue = true) (hs : s.statusReserved = false)
    (hm : s.turn.move = .foreground) : step s = .next (s.takeTurn.bootConfig.latchIv s.turn.ivPick) := by
  obtain ⟨-, hf, -⟩ := (State.bootDue_iff s).mp hb
  have hb' : s.takeTurn.bootDue = true := by simpa using hb
  have hnone : s.takeTurn.fetch s.turn.move = none := by simpa [hm] using State.fetch_foreground_boot _ hb'
  rw [step_of_no_fetch s (by rw [hf]; rfl) hs hnone, State.endTurn_eq, hm, State.environment_foreground_boot _ hb']

/-- Settles O43: the step is `CONFIG`, which reads the parameters and `ctl` as the turn leaves them. -/
theorem configStep : Obligations.ConfigStep := by
  intro s hr hf hl hs hm
  rw [step_of_bootDue s ((State.bootDue_iff s).mpr ⟨hr, hf, hl⟩) hs hm]
  simp [State.bootConfig]

/-- `CONFIG` makes an idle block on a free bus, with no flag set and nothing requested, ready for commands (R193). -/
theorem State.readyForCommands_bootConfig (s : State) (hstp : s.ctl.txstp = false) (hstt : s.ctl.txstt = false)
    (hifg : s.ifg = ⟨false, false, false, false, false, false⟩) (hbus : s.bus = .busIdle) (hf : s.fg = Fg.idle)
    (hl : s.lpm = false) : s.bootConfig.readyForCommands := by
  simp [State.readyForCommands, hstp, hstt, hifg, hbus, hf, hl]

/-- The status vector is not part of it. -/
theorem State.readyForCommands_latchIv (s : State) (n : Nat) :
    (s.latchIv n).readyForCommands ↔ s.readyForCommands := .rfl

/-- Settles O44: after reset the boot sequence is due, and `CONFIG` keeps what R193 asks of the reset values. -/
theorem readyAfterConfig : Obligations.ReadyAfterConfig := by
  intro p src n ts
  refine ⟨_, step_of_bootDue _ rfl (by simp [State.statusReserved, State.resetWith]) rfl, ?_⟩
  rw [State.readyForCommands_latchIv]
  exact State.readyForCommands_bootConfig _ rfl rfl rfl rfl rfl rfl

end Sys2Proof.Machine
end
